-- ==== Sys2Proof/Word.lean ====
section
/-! DEFINITION. The word types of the block: bytes, the 24-bit payload and the 32-bit views (R7, R31, R35). -/

namespace Sys2Proof

/-- A byte: an unsigned 8-bit value (R7). -/
abbrev Byte := BitVec 8

/-- The 24-bit payload register `res_payload` (R31). -/
abbrev Payload := BitVec 24

/-- A 32-bit host view or counter (R27, R28, R35, R36). -/
abbrev Word32 := BitVec 32

end Sys2Proof
end

