-- ==== Sys2Proof/Syntax.lean ====
section
/-! DEFINITION. The instruction syntax: one constructor per row of spec/opcode_table.json, the three ports a word
comes through, the inputs the world outside the block can give it, and the assembler lines of R90 and R91. -/

namespace Sys2Proof

/-- The command codes the source names (R74). The list names values and restricts nothing (R89). -/
inductive CommandCode where
  /-- `0x01` output-enable (set) -/
  | outputEnable
  /-- `0x02` set-current (set) -/
  | setCurrent
  /-- `0x03` set-voltage-cutoff (set) -/
  | setVoltageCutoff
  /-- `0x04` set-timer (set) -/
  | setTimer
  /-- `0x05` reset (set) -/
  | reset
  /-- `0x06` set-mode (set) -/
  | setMode
  /-- `0x10` on/off (query) -/
  | onOff
  /-- `0x11` voltage (query) -/
  | voltage
  /-- `0x12` current (query) -/
  | current
  /-- `0x13` elapsed-time (query) -/
  | elapsedTime
  /-- `0x14` capacity-Ah (query) -/
  | capacityAh
  /-- `0x15` capacity-Wh (query) -/
  | capacityWh
  /-- `0x16` temperature (query) -/
  | temperature
  /-- `0x17` current-limit (query) -/
  | currentLimit
  /-- `0x18` voltage-limit (query) -/
  | voltageLimit
  /-- `0x19` timer (query) -/
  | timer
  deriving DecidableEq, Repr

/-- The port a word is read at. Host words (R76) and wire words (R71 to R73) share byte values, so the port decides
which rows of the opcode table apply. -/
inductive Port where
  /-- the host port: ENC, DEC, RECV, XFER, RESET and the reserved op bytes (R76, R82) -/
  | host
  /-- the outbound wire: 6-byte frames (R71) -/
  | lineOut
  /-- the inbound wire: 8-byte frames and the acknowledgment byte (R72, R73) -/
  | lineIn
  deriving DecidableEq, Repr, Inhabited

/-- One constructor per row of spec/opcode_table.json, in the table's order. -/
inductive Instr where
  /-- ENC cmd, p0, p1 (R77, R100) -/
  | enc (cmd p0 p1 : Byte)
  /-- DEC exp, n, raw (R78, R111). `raw` is empty when `n > 8` (R83). -/
  | dec (exp n : Byte) (raw : List Byte)
  /-- RECV exp (R79, R130) -/
  | recv (exp : Byte)
  /-- XFER cmd, p0, p1 (R80, R170) -/
  | xfer (cmd p0 p1 : Byte)
  /-- RESET (R81, R171) -/
  | reset
  /-- RESERVED op byte `00` (R82, R172) -/
  | reserved00
  /-- RESERVED op byte `05` (R82, R172) -/
  | reserved05
  /-- RESERVED op byte `06`..`07` (R82, R172); `low` holds the op byte's free bits 0:0 -/
  | reserved06 (low : BitVec 1)
  /-- RESERVED op byte `08`..`0B` (R82, R172); `low` holds the op byte's free bits 1:0 -/
  | reserved08 (low : BitVec 2)
  /-- RESERVED op byte `0C`..`0D` (R82, R172); `low` holds the op byte's free bits 0:0 -/
  | reserved0C (low : BitVec 1)
  /-- RESERVED op byte `0E` (R82, R172) -/
  | reserved0E
  /-- RESERVED op byte `10`..`1F` (R82, R172); `low` holds the op byte's free bits 3:0 -/
  | reserved10 (low : BitVec 4)
  /-- RESERVED op byte `20`..`3F` (R82, R172); `low` holds the op byte's free bits 4:0 -/
  | reserved20 (low : BitVec 5)
  /-- RESERVED op byte `40`..`7F` (R82, R172); `low` holds the op byte's free bits 5:0 -/
  | reserved40 (low : BitVec 6)
  /-- RESERVED op byte `80`..`FF` (R82, R172); `low` holds the op byte's free bits 6:0 -/
  | reserved80 (low : BitVec 7)
  /-- OUT_FRAME: the outbound frame of a command code that has no row of its own (R71) -/
  | outFrame (cmd p0 p1 : Byte)
  /-- the outbound frame of code `0x01` output-enable (R71, R74) -/
  | outOutputEnable (p0 p1 : Byte)
  /-- the outbound frame of code `0x02` set-current (R71, R74) -/
  | outSetCurrent (p0 p1 : Byte)
  /-- the outbound frame of code `0x03` set-voltage-cutoff (R71, R74) -/
  | outSetVoltageCutoff (p0 p1 : Byte)
  /-- the outbound frame of code `0x04` set-timer (R71, R74) -/
  | outSetTimer (p0 p1 : Byte)
  /-- the outbound frame of code `0x05` reset (R71, R74) -/
  | outReset (p0 p1 : Byte)
  /-- the outbound frame of code `0x06` set-mode (R71, R74) -/
  | outSetMode (p0 p1 : Byte)
  /-- the outbound frame of code `0x10` on/off (R71, R74) -/
  | outOnOff (p0 p1 : Byte)
  /-- the outbound frame of code `0x11` voltage (R71, R74) -/
  | outVoltage (p0 p1 : Byte)
  /-- the outbound frame of code `0x12` current (R71, R74) -/
  | outCurrent (p0 p1 : Byte)
  /-- the outbound frame of code `0x13` elapsed-time (R71, R74) -/
  | outElapsedTime (p0 p1 : Byte)
  /-- the outbound frame of code `0x14` capacity-Ah (R71, R74) -/
  | outCapacityAh (p0 p1 : Byte)
  /-- the outbound frame of code `0x15` capacity-Wh (R71, R74) -/
  | outCapacityWh (p0 p1 : Byte)
  /-- the outbound frame of code `0x16` temperature (R71, R74) -/
  | outTemperature (p0 p1 : Byte)
  /-- the outbound frame of code `0x17` current-limit (R71, R74) -/
  | outCurrentLimit (p0 p1 : Byte)
  /-- the outbound frame of code `0x18` voltage-limit (R71, R74) -/
  | outVoltageLimit (p0 p1 : Byte)
  /-- the outbound frame of code `0x19` timer (R71, R74) -/
  | outTimer (p0 p1 : Byte)
  /-- IN_FRAME: the inbound frame whose echo has no row of its own (R72) -/
  | inFrame (echo p0 p1 p2 : Byte)
  /-- the inbound frame that answers query `0x10` on/off (R72, R74) -/
  | inOnOff (p0 p1 p2 : Byte)
  /-- the inbound frame that answers query `0x11` voltage (R72, R74) -/
  | inVoltage (p0 p1 p2 : Byte)
  /-- the inbound frame that answers query `0x12` current (R72, R74) -/
  | inCurrent (p0 p1 p2 : Byte)
  /-- the inbound frame that answers query `0x13` elapsed-time (R72, R74) -/
  | inElapsedTime (p0 p1 p2 : Byte)
  /-- the inbound frame that answers query `0x14` capacity-Ah (R72, R74) -/
  | inCapacityAh (p0 p1 p2 : Byte)
  /-- the inbound frame that answers query `0x15` capacity-Wh (R72, R74) -/
  | inCapacityWh (p0 p1 p2 : Byte)
  /-- the inbound frame that answers query `0x16` temperature (R72, R74) -/
  | inTemperature (p0 p1 p2 : Byte)
  /-- the inbound frame that answers query `0x17` current-limit (R72, R74) -/
  | inCurrentLimit (p0 p1 p2 : Byte)
  /-- the inbound frame that answers query `0x18` voltage-limit (R72, R74) -/
  | inVoltageLimit (p0 p1 p2 : Byte)
  /-- the inbound frame that answers query `0x19` timer (R72, R74) -/
  | inTimer (p0 p1 p2 : Byte)
  /-- ACK: the single acknowledgment byte `0x6F` (R73) -/
  | ack
  deriving DecidableEq, Repr

/-- What the transport does when the receive engine asks for an item (R131): it answers its read, or it reports an
I/O fault. -/
inductive Transport where
  /-- the read returns: the head byte of `rxq`, or `Timeout` when `rxq` is empty -/
  | delivers
  /-- the read fails: item `Error` -/
  | fails
  deriving DecidableEq, Repr

/-- An item of the inbound stream (R52). -/
inductive Item where
  | byte (b : Byte)
  | timeout
  | error
  deriving DecidableEq, Repr

/-- One turn of the world around the block: which agent moves next, and with what (R10). -/
inductive Input where
  /-- a word of the opcode table is presented at a port -/
  | word (p : Port) (bytes : List Byte)
  /-- an arrival step: the environment appends one byte to `rxq` (R62) -/
  | arrive (b : Byte)
  /-- the receive engine's turn to take one item (R131) -/
  | receive (t : Transport)
  /-- the host's best-effort flush: the environment removes a prefix of `rxq` (R233, 93 I5) -/
  | flush (n : Nat)
  deriving DecidableEq, Repr, Inhabited

/-- A line of assembler text: the mnemonics of R90 and the pseudo-instructions of R91. -/
inductive AsmLine where
  | enc (cmd p0 p1 : Byte)
  | dec (exp : Byte) (raw : List Byte)
  | recv (exp : Byte)
  | xfer (cmd p0 p1 : Byte)
  | reset
  /-- `.byte op`, the form a reserved word is written in (R90); for an op that is not reserved, log entry 24 -/
  | byte (op : Byte)
  | outputOn
  | outputOff
  | enc16 (cmd : Byte) (v : BitVec 16)
  | query (cmd p0 p1 : Byte)
  deriving DecidableEq, Repr

end Sys2Proof
end

