-- ==== Sys2Proof/Machine/Constants.lean ====
section
/-! DEFINITION. The fixed constants of the block (R5) and the named command codes (R74). -/

namespace Sys2Proof.Machine

/-- Outbound header byte 0 (R5 `OH0`). -/
def oh0 : Byte := 0xB1
/-- Outbound header byte 1 (R5 `OH1`). -/
def oh1 : Byte := 0xB2
/-- Outbound footer byte (R5 `OT`). -/
def ot : Byte := 0xB6
/-- Inbound header byte 0, the scanner's sync byte (R5 `IH0`). -/
def ih0 : Byte := 0xCA
/-- Inbound header byte 1 (R5 `IH1`). -/
def ih1 : Byte := 0xCB
/-- Inbound footer byte 0 (R5 `IT0`). -/
def it0 : Byte := 0xCE
/-- Inbound footer byte 1 (R5 `IT1`). -/
def it1 : Byte := 0xCF
/-- The acknowledgment byte (R5 `ACK`). -/
def ackByte : Byte := 0x6F
/-- Outbound frame length (R5 `OUT_LEN`). -/
def outLen : Nat := 6
/-- Inbound frame length (R5 `IN_LEN`), which is also the largest `n` of DEC (R83). -/
def inLen : Nat := 8
/-- Outbound payload bytes (R5 `OUT_PAYLOAD_LEN`). -/
def outPayloadLen : Nat := 2
/-- Inbound payload bytes (R5 `IN_PAYLOAD_LEN`). -/
def inPayloadLen : Nat := 3

/-- The byte that carries a named command code (R74). -/
def codeByte : CommandCode → Byte
  | .outputEnable => 0x01
  | .setCurrent => 0x02
  | .setVoltageCutoff => 0x03
  | .setTimer => 0x04
  | .reset => 0x05
  | .setMode => 0x06
  | .onOff => 0x10
  | .voltage => 0x11
  | .current => 0x12
  | .elapsedTime => 0x13
  | .capacityAh => 0x14
  | .capacityWh => 0x15
  | .temperature => 0x16
  | .currentLimit => 0x17
  | .voltageLimit => 0x18
  | .timer => 0x19

/-- The named command codes in the order of R74's table. -/
def namedCodes : List CommandCode :=
  [.outputEnable, .setCurrent, .setVoltageCutoff, .setTimer, .reset, .setMode,
   .onOff, .voltage, .current, .elapsedTime, .capacityAh, .capacityWh,
   .temperature, .currentLimit, .voltageLimit, .timer]

/-- The name R74 gives a byte, if it gives one. -/
def codeOfByte (b : Byte) : Option CommandCode := namedCodes.find? (fun c => codeByte c == b)

/-- The class rule of R74: a register code at or above `0x10` is a query register. It describes the instrument; no rule
of the block uses it (R75). -/
def isQueryByte (b : Byte) : Bool := 0x10 ≤ b.toNat

end Sys2Proof.Machine
end

