-- ==== Sys2Proof/WellFormed.lean ====
section
/-! DEFINITION. Which terms of the instruction syntax are the reading of some word. -/

namespace Sys2Proof

open Sys2Proof.Machine

/-- DEC carries as many raw bytes as `n` says when `n ≤ 8` (R78), and none when `n > 8` (R83). -/
def wfDec (n : Byte) (raw : List Byte) : Bool :=
  if n.toNat ≤ inLen then raw.length == n.toNat else raw.isEmpty

/-- OUT_FRAME is written for the command bytes that have no row of their own (R71, R74). -/
def wfOutFrame (cmd : Byte) : Bool := (codeOfByte cmd).isNone

/-- IN_FRAME is written for the echo bytes that have no row of their own: those R74 does not name as a query. -/
def wfInFrame (echo : Byte) : Bool := (codeOfByte echo).isNone || !isQueryByte echo

/-- The well-formed instructions. Every operand of every other row may hold every value of its type. -/
def Instr.wellFormed : Instr → Bool
  | .dec _ n raw => wfDec n raw
  | .outFrame cmd _ _ => wfOutFrame cmd
  | .inFrame echo _ _ _ => wfInFrame echo
  | .enc _ _ _ | .recv _ | .xfer _ _ _ | .reset => true
  | .reserved00 | .reserved05 | .reserved06 _ | .reserved08 _ | .reserved0C _ => true
  | .reserved0E | .reserved10 _ | .reserved20 _ | .reserved40 _ | .reserved80 _ => true
  | .outOutputEnable _ _ | .outSetCurrent _ _ | .outSetVoltageCutoff _ _ | .outSetTimer _ _ => true
  | .outReset _ _ | .outSetMode _ _ | .outOnOff _ _ | .outVoltage _ _ | .outCurrent _ _ => true
  | .outElapsedTime _ _ | .outCapacityAh _ _ | .outCapacityWh _ _ | .outTemperature _ _ => true
  | .outCurrentLimit _ _ | .outVoltageLimit _ _ | .outTimer _ _ => true
  | .inOnOff _ _ _ | .inVoltage _ _ _ | .inCurrent _ _ _ | .inElapsedTime _ _ _ => true
  | .inCapacityAh _ _ _ | .inCapacityWh _ _ _ | .inTemperature _ _ _ => true
  | .inCurrentLimit _ _ _ | .inVoltageLimit _ _ _ | .inTimer _ _ _ => true
  | .ack => true

end Sys2Proof
end

