-- ==== Sys2Proof/Decode.lean ====
section
/-! DEFINITION. The decoder and the encoder of the three ports, the rows of spec/opcode_table.json they are written
from, the reading of a table word, and the assembler of R90 and R91. -/

namespace Sys2Proof

/-- Why bytes at a port decode to no instruction. -/
inductive DecodeError where
  /-- the word is not whole: the host port delivers whole operations only (R76) -/
  | truncated
  /-- no row of the opcode table for this port matches -/
  | noRow
  deriving DecidableEq, Repr

/-- A decoded instruction and the bytes that follow its word. -/
abbrev Decoded := Except DecodeError (Instr × List Byte)

open Sys2Proof.Machine

/-- The reserved op bytes, by the ten rows of the table (R82). -/
def decodeReserved (op : Byte) : Option Instr :=
  if op = 0x00 then some .reserved00
  else if op = 0x05 then some .reserved05
  else if op.extractLsb' 1 7 = 3#7 then some (.reserved06 (op.extractLsb' 0 1))
  else if op.extractLsb' 2 6 = 2#6 then some (.reserved08 (op.extractLsb' 0 2))
  else if op.extractLsb' 1 7 = 6#7 then some (.reserved0C (op.extractLsb' 0 1))
  else if op = 0x0E then some .reserved0E
  else if op.extractLsb' 4 4 = 1#4 then some (.reserved10 (op.extractLsb' 0 4))
  else if op.extractLsb' 5 3 = 1#3 then some (.reserved20 (op.extractLsb' 0 5))
  else if op.extractLsb' 6 2 = 1#2 then some (.reserved40 (op.extractLsb' 0 6))
  else if op.extractLsb' 7 1 = 1#1 then some (.reserved80 (op.extractLsb' 0 7))
  else none

/-- The operands of DEC: `n` raw bytes follow when `n ≤ 8` (R78) and none when `n > 8` (R83). -/
def decodeDec : List Byte → Decoded
  | exp :: n :: t =>
    if inLen < n.toNat then .ok (.dec exp n [], t)
    else if t.length < n.toNat then .error .truncated
    else .ok (.dec exp n (t.take n.toNat), t.drop n.toNat)
  | _ => .error .truncated

/-- A host word (R76 to R84): byte 0 selects the operation, and the bytes after the word are handed back. -/
def decodeHost : List Byte → Decoded
  | [] => .error .truncated
  | op :: t =>
    if op = 0x01 then
      match t with
      | cmd :: p0 :: p1 :: r => .ok (.enc cmd p0 p1, r)
      | _ => .error .truncated
    else if op = 0x02 then decodeDec t
    else if op = 0x03 then
      match t with
      | exp :: r => .ok (.recv exp, r)
      | _ => .error .truncated
    else if op = 0x04 then
      match t with
      | cmd :: p0 :: p1 :: r => .ok (.xfer cmd p0 p1, r)
      | _ => .error .truncated
    else if op = 0x0F then .ok (.reset, t)
    else
      match decodeReserved op with
      | some i => .ok (i, t)
      | none => .error .noRow

/-- The row of an outbound frame: the code's own row where R74 names the code, else OUT_FRAME (R71). -/
def outInstr (cmd p0 p1 : Byte) : Instr :=
  match codeOfByte cmd with
  | some .outputEnable => .outOutputEnable p0 p1
  | some .setCurrent => .outSetCurrent p0 p1
  | some .setVoltageCutoff => .outSetVoltageCutoff p0 p1
  | some .setTimer => .outSetTimer p0 p1
  | some .reset => .outReset p0 p1
  | some .setMode => .outSetMode p0 p1
  | some .onOff => .outOnOff p0 p1
  | some .voltage => .outVoltage p0 p1
  | some .current => .outCurrent p0 p1
  | some .elapsedTime => .outElapsedTime p0 p1
  | some .capacityAh => .outCapacityAh p0 p1
  | some .capacityWh => .outCapacityWh p0 p1
  | some .temperature => .outTemperature p0 p1
  | some .currentLimit => .outCurrentLimit p0 p1
  | some .voltageLimit => .outVoltageLimit p0 p1
  | some .timer => .outTimer p0 p1
  | none => .outFrame cmd p0 p1

/-- The row of an inbound frame: the query's own row where R74 names the echo as a query, else IN_FRAME (R72). -/
def inInstr (echo p0 p1 p2 : Byte) : Instr :=
  match codeOfByte echo with
  | some .onOff => .inOnOff p0 p1 p2
  | some .voltage => .inVoltage p0 p1 p2
  | some .current => .inCurrent p0 p1 p2
  | some .elapsedTime => .inElapsedTime p0 p1 p2
  | some .capacityAh => .inCapacityAh p0 p1 p2
  | some .capacityWh => .inCapacityWh p0 p1 p2
  | some .temperature => .inTemperature p0 p1 p2
  | some .currentLimit => .inCurrentLimit p0 p1 p2
  | some .voltageLimit => .inVoltageLimit p0 p1 p2
  | some .timer => .inTimer p0 p1 p2
  | some .outputEnable | some .setCurrent | some .setVoltageCutoff | some .setTimer | some .reset | some .setMode => .inFrame echo p0 p1 p2
  | none => .inFrame echo p0 p1 p2

/-- An outbound wire word is exactly the six bytes of R71. -/
def decodeOut : List Byte → Decoded
  | [h0, h1, cmd, p0, p1, f] =>
    if h0 = oh0 ∧ h1 = oh1 ∧ f = ot then .ok (outInstr cmd p0 p1, []) else .error .noRow
  | _ => .error .noRow

/-- An inbound wire word is exactly the eight bytes of R72, or the single byte of R73. -/
def decodeIn : List Byte → Decoded
  | [b] => if b = ackByte then .ok (.ack, []) else .error .noRow
  | [h0, h1, echo, p0, p1, p2, f0, f1] =>
    if h0 = ih0 ∧ h1 = ih1 ∧ f0 = it0 ∧ f1 = it1 then .ok (inInstr echo p0 p1 p2, []) else .error .noRow
  | _ => .error .noRow

/-- The instruction the bytes at a port start with, and the bytes after it. -/
def decode (p : Port) (bytes : List Byte) : Decoded :=
  match p with
  | .host => decodeHost bytes
  | .lineOut => decodeOut bytes
  | .lineIn => decodeIn bytes

/-- The port an instruction's word is read at. -/
def Instr.port : Instr → Port
  | .enc _ _ _ | .dec _ _ _ | .recv _ | .xfer _ _ _ | .reset => .host
  | .reserved00 | .reserved05 | .reserved06 _ | .reserved08 _ | .reserved0C _ | .reserved0E | .reserved10 _ | .reserved20 _ | .reserved40 _ | .reserved80 _ => .host
  | .outFrame _ _ _ => .lineOut
  | .outOutputEnable _ _ | .outSetCurrent _ _ | .outSetVoltageCutoff _ _ | .outSetTimer _ _ | .outReset _ _ => .lineOut
  | .outSetMode _ _ | .outOnOff _ _ | .outVoltage _ _ | .outCurrent _ _ | .outElapsedTime _ _ => .lineOut
  | .outCapacityAh _ _ | .outCapacityWh _ _ | .outTemperature _ _ | .outCurrentLimit _ _ | .outVoltageLimit _ _ => .lineOut
  | .outTimer _ _ => .lineOut
  | .inFrame _ _ _ _ => .lineIn
  | .inOnOff _ _ _ | .inVoltage _ _ _ | .inCurrent _ _ _ | .inElapsedTime _ _ _ | .inCapacityAh _ _ _ => .lineIn
  | .inCapacityWh _ _ _ | .inTemperature _ _ _ | .inCurrentLimit _ _ _ | .inVoltageLimit _ _ _ | .inTimer _ _ _ => .lineIn
  | .ack => .lineIn

/-- The bytes of an outbound frame (R71), byte 0 first. -/
def outWord (cmd p0 p1 : Byte) : List Byte := [0xB1, 0xB2, cmd, p0, p1, 0xB6]

/-- The bytes of an inbound frame (R72), byte 0 first. -/
def inWord (echo p0 p1 p2 : Byte) : List Byte := [0xCA, 0xCB, echo, p0, p1, p2, 0xCE, 0xCF]

/-- The word of an instruction, byte 0 first (R71 to R82). -/
def encode : Instr → List Byte
  | .enc cmd p0 p1 => [0x01, cmd, p0, p1]
  | .dec exp n raw => 0x02 :: exp :: n :: raw
  | .recv exp => [0x03, exp]
  | .xfer cmd p0 p1 => [0x04, cmd, p0, p1]
  | .reset => [0x0F]
  | .reserved00 => [0x00]
  | .reserved05 => [0x05]
  | .reserved06 low => [3#7 ++ low]
  | .reserved08 low => [2#6 ++ low]
  | .reserved0C low => [6#7 ++ low]
  | .reserved0E => [0x0E]
  | .reserved10 low => [1#4 ++ low]
  | .reserved20 low => [1#3 ++ low]
  | .reserved40 low => [1#2 ++ low]
  | .reserved80 low => [1#1 ++ low]
  | .outFrame cmd p0 p1 => outWord cmd p0 p1
  | .outOutputEnable p0 p1 => outWord 0x01 p0 p1
  | .outSetCurrent p0 p1 => outWord 0x02 p0 p1
  | .outSetVoltageCutoff p0 p1 => outWord 0x03 p0 p1
  | .outSetTimer p0 p1 => outWord 0x04 p0 p1
  | .outReset p0 p1 => outWord 0x05 p0 p1
  | .outSetMode p0 p1 => outWord 0x06 p0 p1
  | .outOnOff p0 p1 => outWord 0x10 p0 p1
  | .outVoltage p0 p1 => outWord 0x11 p0 p1
  | .outCurrent p0 p1 => outWord 0x12 p0 p1
  | .outElapsedTime p0 p1 => outWord 0x13 p0 p1
  | .outCapacityAh p0 p1 => outWord 0x14 p0 p1
  | .outCapacityWh p0 p1 => outWord 0x15 p0 p1
  | .outTemperature p0 p1 => outWord 0x16 p0 p1
  | .outCurrentLimit p0 p1 => outWord 0x17 p0 p1
  | .outVoltageLimit p0 p1 => outWord 0x18 p0 p1
  | .outTimer p0 p1 => outWord 0x19 p0 p1
  | .inFrame echo p0 p1 p2 => inWord echo p0 p1 p2
  | .inOnOff p0 p1 p2 => inWord 0x10 p0 p1 p2
  | .inVoltage p0 p1 p2 => inWord 0x11 p0 p1 p2
  | .inCurrent p0 p1 p2 => inWord 0x12 p0 p1 p2
  | .inElapsedTime p0 p1 p2 => inWord 0x13 p0 p1 p2
  | .inCapacityAh p0 p1 p2 => inWord 0x14 p0 p1 p2
  | .inCapacityWh p0 p1 p2 => inWord 0x15 p0 p1 p2
  | .inTemperature p0 p1 p2 => inWord 0x16 p0 p1 p2
  | .inCurrentLimit p0 p1 p2 => inWord 0x17 p0 p1 p2
  | .inVoltageLimit p0 p1 p2 => inWord 0x18 p0 p1 p2
  | .inTimer p0 p1 p2 => inWord 0x19 p0 p1 p2
  | .ack => [0x6F]

/-- A row of spec/opcode_table.json: its mnemonic, its word's length in bytes (none for DEC, whose length varies), and
its match and mask bytes, byte 0 first (R70). -/
structure TableRow where
  mnemonic : String
  length : Option Nat
  bits : List Byte
  mask : List Byte
  deriving DecidableEq, Repr

/-- A word matches a row when its length equals the row's and the masked word equals the row's match (R70). DEC's row
matches on byte 0 only (R78). -/
def TableRow.accepts (r : TableRow) (word : List Byte) : Bool :=
  (match r.length with
    | some n => word.length == n
    | none => r.mask.length ≤ word.length) &&
  (List.zipWith (· &&& ·) word r.mask == r.bits)

/-- The row of an outbound frame whose command byte the table fixes. -/
def outRow (name : String) (cmd : Byte) : TableRow :=
  ⟨name, some 6, [0xB1, 0xB2, cmd, 0x00, 0x00, 0xB6], [0xFF, 0xFF, 0xFF, 0x00, 0x00, 0xFF]⟩

/-- The row of an inbound frame whose echo byte the table fixes. -/
def inRow (name : String) (echo : Byte) : TableRow :=
  ⟨name, some 8, [0xCA, 0xCB, echo, 0x00, 0x00, 0x00, 0xCE, 0xCF], [0xFF, 0xFF, 0xFF, 0x00, 0x00, 0x00, 0xFF, 0xFF]⟩

/-- The opcode-table row of an instruction. -/
def Instr.row : Instr → TableRow
  | .enc _ _ _ => ⟨"ENC", some 4, [0x01, 0x00, 0x00, 0x00], [0xFF, 0x00, 0x00, 0x00]⟩
  | .dec _ _ _ => ⟨"DEC", none, [0x02], [0xFF]⟩
  | .recv _ => ⟨"RECV", some 2, [0x03, 0x00], [0xFF, 0x00]⟩
  | .xfer _ _ _ => ⟨"XFER", some 4, [0x04, 0x00, 0x00, 0x00], [0xFF, 0x00, 0x00, 0x00]⟩
  | .reset => ⟨"RESET", some 1, [0x0F], [0xFF]⟩
  | .reserved00 => ⟨"RESERVED", some 1, [0x00], [0xFF]⟩
  | .reserved05 => ⟨"RESERVED", some 1, [0x05], [0xFF]⟩
  | .reserved06 _ => ⟨"RESERVED", some 1, [0x06], [0xFE]⟩
  | .reserved08 _ => ⟨"RESERVED", some 1, [0x08], [0xFC]⟩
  | .reserved0C _ => ⟨"RESERVED", some 1, [0x0C], [0xFE]⟩
  | .reserved0E => ⟨"RESERVED", some 1, [0x0E], [0xFF]⟩
  | .reserved10 _ => ⟨"RESERVED", some 1, [0x10], [0xF0]⟩
  | .reserved20 _ => ⟨"RESERVED", some 1, [0x20], [0xE0]⟩
  | .reserved40 _ => ⟨"RESERVED", some 1, [0x40], [0xC0]⟩
  | .reserved80 _ => ⟨"RESERVED", some 1, [0x80], [0x80]⟩
  | .outFrame _ _ _ => ⟨"OUT_FRAME", some 6, [0xB1, 0xB2, 0x00, 0x00, 0x00, 0xB6], [0xFF, 0xFF, 0x00, 0x00, 0x00, 0xFF]⟩
  | .outOutputEnable _ _ => outRow "OUT_OUTPUT_ENABLE" 0x01
  | .outSetCurrent _ _ => outRow "OUT_SET_CURRENT" 0x02
  | .outSetVoltageCutoff _ _ => outRow "OUT_SET_VOLTAGE_CUTOFF" 0x03
  | .outSetTimer _ _ => outRow "OUT_SET_TIMER" 0x04
  | .outReset _ _ => outRow "OUT_RESET" 0x05
  | .outSetMode _ _ => outRow "OUT_SET_MODE" 0x06
  | .outOnOff _ _ => outRow "OUT_ON_OFF" 0x10
  | .outVoltage _ _ => outRow "OUT_VOLTAGE" 0x11
  | .outCurrent _ _ => outRow "OUT_CURRENT" 0x12
  | .outElapsedTime _ _ => outRow "OUT_ELAPSED_TIME" 0x13
  | .outCapacityAh _ _ => outRow "OUT_CAPACITY_AH" 0x14
  | .outCapacityWh _ _ => outRow "OUT_CAPACITY_WH" 0x15
  | .outTemperature _ _ => outRow "OUT_TEMPERATURE" 0x16
  | .outCurrentLimit _ _ => outRow "OUT_CURRENT_LIMIT" 0x17
  | .outVoltageLimit _ _ => outRow "OUT_VOLTAGE_LIMIT" 0x18
  | .outTimer _ _ => outRow "OUT_TIMER" 0x19
  | .inFrame _ _ _ _ =>
    ⟨"IN_FRAME", some 8, [0xCA, 0xCB, 0x00, 0x00, 0x00, 0x00, 0xCE, 0xCF], [0xFF, 0xFF, 0x00, 0x00, 0x00, 0x00, 0xFF, 0xFF]⟩
  | .inOnOff _ _ _ => inRow "IN_ON_OFF" 0x10
  | .inVoltage _ _ _ => inRow "IN_VOLTAGE" 0x11
  | .inCurrent _ _ _ => inRow "IN_CURRENT" 0x12
  | .inElapsedTime _ _ _ => inRow "IN_ELAPSED_TIME" 0x13
  | .inCapacityAh _ _ _ => inRow "IN_CAPACITY_AH" 0x14
  | .inCapacityWh _ _ _ => inRow "IN_CAPACITY_WH" 0x15
  | .inTemperature _ _ _ => inRow "IN_TEMPERATURE" 0x16
  | .inCurrentLimit _ _ _ => inRow "IN_CURRENT_LIMIT" 0x17
  | .inVoltageLimit _ _ _ => inRow "IN_VOLTAGE_LIMIT" 0x18
  | .inTimer _ _ _ => inRow "IN_TIMER" 0x19
  | .ack => ⟨"ACK", some 1, [0x6F], [0xFF]⟩

/-- The bytes of an `n`-byte word whose value is `w`: byte 0 is the most significant (R70). -/
def bytesOfWord : Nat → Nat → List Byte
  | 0, _ => []
  | n + 1, w => BitVec.ofNat 8 (w / 256 ^ n) :: bytesOfWord n w

/-- The value `W` of a word (R70). -/
def wordOfBytes (bytes : List Byte) : Nat := bytes.foldl (fun acc b => acc * 256 + b.toNat) 0

/-- The port a table word is meant for: a wire port where the whole word is a wire word, else the host port. -/
def tablePort (bytes : List Byte) : Port :=
  match decodeOut bytes, decodeIn bytes with
  | .ok _, _ => .lineOut
  | _, .ok _ => .lineIn
  | _, _ => .host

/-- The longest host word is DEC with eight raw bytes (R84). -/
def longestWord : Nat := 11

/-- A host word given by its first bytes, the operand bytes the table gives no bits being zero, cut to the length the
decoder finds (R84). Bytes whose length is no row's match no row by R70, and that they too are filled with zeros or cut
to the operation of byte 0 is the model's choice (DESIGN CHOICE, log entry 25). -/
def completeHostWord (bytes : List Byte) : List Byte :=
  let padded := bytes ++ List.replicate (longestWord - bytes.length) 0
  match decodeHost padded with
  | .ok (_, rest) => padded.take (padded.length - rest.length)
  | .error _ => padded

/-- The input that presents a table word at its port. -/
def tableInput (nbits w : Nat) : Input :=
  let bytes := bytesOfWord ((nbits + 7) / 8) w
  match tablePort bytes with
  | .host => .word .host (completeHostWord bytes)
  | p => .word p bytes

/-- The instruction the decoder reads from a table word, numbered as spec/opcode_table.json and R70 number it: byte 0 of
the word holds the most significant bits. -/
def decodeTableWord (nbits w : Nat) : Option Instr :=
  match tableInput nbits w with
  | .word p bytes =>
    match decode p bytes with
    | .ok (i, _) => some i
    | .error _ => none
  | _ => none

/-- The host word the assembler emits for a line (R90, R91). R90 lets a DEC line list more than eight bytes and R76 has no
word for it: what is emitted then, `n` modulo 256 and every byte of the list, is the model's choice (DESIGN CHOICE, log
entry 23). R90 gives `.byte` for a reserved word only: that it emits its byte for the other five ops too is the model's
choice (DESIGN CHOICE, log entry 24). -/
def assemble : AsmLine → List Byte
  | .enc cmd p0 p1 => encode (.enc cmd p0 p1)
  | .dec exp raw => encode (.dec exp (BitVec.ofNat 8 raw.length) raw)
  | .recv exp => encode (.recv exp)
  | .xfer cmd p0 p1 => encode (.xfer cmd p0 p1)
  | .reset => encode .reset
  | .byte op => [op]
  | .outputOn => encode (.enc 0x01 0x01 0x00)
  | .outputOff => encode (.enc 0x01 0x00 0x00)
  | .enc16 cmd v => encode (.enc cmd (v.extractLsb' 8 8) (v.extractLsb' 0 8))
  | .query cmd p0 p1 => encode (.xfer cmd p0 p1)

/-- A hexadecimal digit. -/
def hexDigit (n : Nat) : Char := "0123456789ABCDEF".toList.getD n '0'

/-- A byte as R90 writes it: `0x` and two hexadecimal digits. -/
def hexByte (b : Byte) : String := String.ofList ['0', 'x', hexDigit (b.toNat / 16), hexDigit (b.toNat % 16)]

/-- Operands separated by commas (R90). -/
def operandList (bs : List Byte) : String := ", ".intercalate (bs.map hexByte)

/-- The text of an assembler line (R90, R91). -/
def AsmLine.text : AsmLine → String
  | .enc cmd p0 p1 => "ENC " ++ operandList [cmd, p0, p1]
  | .dec exp raw => "DEC " ++ hexByte exp ++ ", [" ++ operandList raw ++ "]"
  | .recv exp => "RECV " ++ hexByte exp
  | .xfer cmd p0 p1 => "XFER " ++ operandList [cmd, p0, p1]
  | .reset => "RESET"
  | .byte op => ".byte " ++ hexByte op
  | .outputOn => "OUTPUT_ON"
  | .outputOff => "OUTPUT_OFF"
  | .enc16 cmd v => "ENC16 " ++ hexByte cmd ++ ", " ++ toString v.toNat
  | .query cmd p0 p1 => "QUERY " ++ operandList [cmd, p0, p1]

end Sys2Proof
end

