-- ==== Sys2Proof/Config.lean ====
section
/-! DEFINITION. What the spec leaves as a parameter (SCAN_ORIGIN) and the free value of the model (the turn the world
outside the block takes when nothing is scheduled). -/

namespace Sys2Proof

/-- The open parameter SCAN_ORIGIN of R5: where the scanner starts when the first two bytes are not the header. -/
inductive ScanOrigin where
  /-- 0, the spec's value: every byte is examined from the first -/
  | zero
  /-- 2: the first two bytes are dropped unexamined -/
  | two
  /-- 8: the first eight bytes are dropped unexamined -/
  | eight
  deriving DecidableEq, Repr

/-- The parameter of the step relation (R5, R20): no step changes it. -/
structure Config where
  scanOrigin : ScanOrigin
  deriving DecidableEq, Repr

/-- FREE VALUE (log entry 7). The turn taken when no input is scheduled: R10 lets any enabled agent move next, so the
`k`-th such turn is an input about which nothing is known. -/
opaque Config.freeInput : Nat → Input

end Sys2Proof
end

