-- ==== Sys2Proof/Machine/State.lean ====
section
/-! DEFINITION. The machine's state: the thirteen registers of 10_state.md, the two environment streams of R39, and the
model's own fields; its reset; the reasons a step can stop. -/

namespace Sys2Proof.Machine

/-- The receive-engine state `sc` (R21). The encodings 6 and 7 are never held and have no constructor. -/
inductive ScState where
  /-- 0: no transaction in progress -/
  | idle
  /-- 1: the scanner looks for a `0xCA` byte -/
  | seek
  /-- 2: the scanner holds a `0xCA` candidate and waits for `0xCB` -/
  | confirm
  /-- 3: the header is confirmed, the engine collects frame bytes -/
  | collect
  /-- 4: the first two bytes are taken unexamined (SCAN_ORIGIN not 0) -/
  | head
  /-- 5: bytes are dropped until `rx_count` is 8 (SCAN_ORIGIN 8) -/
  | skip
  deriving DecidableEq, Repr

/-- The outcome register `res_kind` (R29). -/
inductive ResKind where
  | none
  | ok
  | noResponse
  | ackOnly
  | frameMismatch
  | transportError
  deriving DecidableEq, Repr

/-- The register `res_reason` (R30), which refines FRAME_MISMATCH. -/
inductive ResReason where
  | none
  | short
  | header
  | footer
  | echo
  deriving DecidableEq, Repr

/-- The register `misuse_cause` (R34, R204). -/
inductive MisuseCause where
  | none
  | busy
  | reservedOp
  | badLen
  deriving DecidableEq, Repr

/-- One row of R200's table of outcomes: what `dec` returns (R110) or an item ends a transaction with (R138, R139). -/
inductive Verdict where
  | ok (payload : Payload)
  | noResponse
  | ackOnly
  | short
  | header
  | footer
  | echo
  | transportError
  deriving DecidableEq, Repr

/-- Why the machine stops with a fault. -/
inductive Fault where
  /-- Raised by the receive engine in COLLECT or HEAD when `fb_len` is 8 or more, so that the byte would go to an index
  above 7. R25 and R50 say this never happens, and 93 I18 lets a model reject such a state. Safe: no run reaches it. -/
  | frameIndex
  deriving DecidableEq, Repr

/-- Why the machine answers that an input has no meaning. -/
inductive Refusal where
  /-- An instruction whose meaning is not written; raised by no arm of this model. Safe. -/
  | notModelled (mnemonic : String)
  /-- Raised by the host port when a word is not whole: R76 delivers whole operations only. Safe: it is no operation. -/
  | incompleteWord
  /-- Raised by a wire port when the bytes are no row of the table; single bytes reach `rxq` by arrival steps. Safe. -/
  | noTableRow
  deriving DecidableEq, Repr

/-- The state (R20, R39), plain data. -/
structure State where
  /-- `sc`, the receive-engine state (R21) -/
  sc : ScState
  /-- `exp_r`, the expected command (R23) -/
  expR : Byte
  /-- `fb[0..7]`, the frame buffer (R24) -/
  fb : Vector Byte 8
  /-- `fb_len`, how many bytes of `fb` are valid (R25) -/
  fbLen : BitVec 4
  /-- `first_b`, the first byte of the transaction (R26) -/
  firstB : Byte
  /-- `rx_count`, the bytes consumed, saturating (R27) -/
  rxCount : Word32
  /-- `disc_count`, the bytes discarded, saturating (R28) -/
  discCount : Word32
  /-- `res_kind`, the outcome (R29) -/
  resKind : ResKind
  /-- `res_reason` (R30) -/
  resReason : ResReason
  /-- `res_payload`, the payload of the last OK (R31) -/
  resPayload : Payload
  /-- `tx_buf[0..5]`, the last outbound frame (R32) -/
  txBuf : Vector Byte 6
  /-- `misuse`, the sticky fault flag (R33) -/
  misuse : Bool
  /-- `misuse_cause`, the first cause since reset (R34) -/
  misuseCause : MisuseCause
  /-- environment: bytes arrived and not consumed, head first (R39) -/
  rxq : List Byte
  /-- environment: every byte pushed to the transport, oldest first (R39) -/
  txs : List Byte
  /-- model: the parameter of the step relation (R5, R20; log entry 6) -/
  cfg : Config
  /-- model: the turns still to come, next first (R10; log entry 7) -/
  inputs : List Input
  /-- model: how many turns were drawn from `Config.freeInput` (log entry 7) -/
  draws : Nat
  deriving DecidableEq, Repr

/-- The machine right after reset (R230), both streams empty as in a fresh model (R39). -/
def State.reset : State where
  sc := .idle
  expR := 0x00
  fb := #v[0x00, 0x00, 0x00, 0x00, 0x00, 0x00, 0x00, 0x00]
  fbLen := 0
  firstB := 0x00
  rxCount := 0
  discCount := 0
  resKind := .none
  resReason := .none
  resPayload := 0x000000
  txBuf := #v[0x00, 0x00, 0x00, 0x00, 0x00, 0x00]
  misuse := false
  misuseCause := .none
  rxq := []
  txs := []
  cfg := { scanOrigin := .zero }
  inputs := []
  draws := 0

end Sys2Proof.Machine
end

