-- ==== Sys2Proof/Machine/Flags.lean ====
section
/-! DEFINITION. The codes of the status registers, the fields of an outcome, and the host's read-only views (R22, R29,
R30, R34 to R37). A host read is one of these functions of the state and no step (R37). -/

namespace Sys2Proof.Machine

/-- The code of `sc` (R21). -/
def ScState.code : ScState → BitVec 3
  | .idle => 0
  | .seek => 1
  | .confirm => 2
  | .collect => 3
  | .head => 4
  | .skip => 5

/-- The code of `res_kind` (R29). -/
def ResKind.code : ResKind → BitVec 3
  | .none => 0
  | .ok => 1
  | .noResponse => 2
  | .ackOnly => 3
  | .frameMismatch => 4
  | .transportError => 5

/-- The code of `res_reason` (R30). -/
def ResReason.code : ResReason → BitVec 3
  | .none => 0
  | .short => 1
  | .header => 2
  | .footer => 3
  | .echo => 4

/-- The code of `misuse_cause` (R34, R204). -/
def MisuseCause.code : MisuseCause → BitVec 2
  | .none => 0
  | .busy => 1
  | .reservedOp => 2
  | .badLen => 3

/-- The value of SCAN_ORIGIN (R5). -/
def originValue : ScanOrigin → Nat
  | .zero => 0
  | .two => 2
  | .eight => 8

/-- The `res_kind` an outcome records (R200). -/
def Verdict.kind : Verdict → ResKind
  | .ok _ => .ok
  | .noResponse => .noResponse
  | .ackOnly => .ackOnly
  | .short | .header | .footer | .echo => .frameMismatch
  | .transportError => .transportError

/-- The `res_reason` an outcome records (R200). -/
def Verdict.reason : Verdict → ResReason
  | .short => .short
  | .header => .header
  | .footer => .footer
  | .echo => .echo
  | .ok _ | .noResponse | .ackOnly | .transportError => .none

/-- `res_payload` after an outcome: the payload of an OK, else the old value (R31, R201). -/
def Verdict.payloadOr (v : Verdict) (old : Payload) : Payload :=
  match v with
  | .ok p => p
  | _ => old

/-- *busy*: a transaction is in progress (R22). -/
def State.busy (s : State) : Bool := decide (s.sc ≠ .idle)

/-- The STATUS word `{15'b0, sc, fb_len, misuse_cause, misuse, busy, res_reason, res_kind}` (R35). -/
def State.statusWord (s : State) : Word32 :=
  0#15 ++ s.sc.code ++ s.fbLen ++ s.misuseCause.code ++ BitVec.ofBool s.misuse ++ BitVec.ofBool s.busy ++
    s.resReason.code ++ s.resKind.code

/-- PAYLOAD `{8'b0, res_payload}` (R36). -/
def State.payloadWord (s : State) : Word32 := 0#8 ++ s.resPayload

/-- RXCOUNT (R36). -/
def State.rxCountWord (s : State) : Word32 := s.rxCount

/-- DISCCOUNT (R36). -/
def State.discCountWord (s : State) : Word32 := s.discCount

/-- A host read of `fb[i]` (R36). -/
def State.fbByte (s : State) (i : Fin 8) : Byte := s.fb[i]

/-- A host read of `tx_buf[i]` (R36). -/
def State.txByte (s : State) (i : Fin 6) : Byte := s.txBuf[i]

end Sys2Proof.Machine
end

