-- ==== Sys2Proof/Machine/Operands.lean ====
section
/-! DEFINITION. The values the operations compute from their operands: the frames, the payload, the saturating count and
the validation function `dec` (R9, R53, R71, R72, R100, R110). -/

namespace Sys2Proof.Machine

/-- `sat32(c + k)` for a 32-bit counter (R9, R27, R28). -/
def satAdd32 (c : Word32) (k : Nat) : Word32 := BitVec.ofNat 32 (min (c.toNat + k) (2 ^ 32 - 1))

/-- `enc(cmd, p0, p1)`, the outbound frame (R71, R100). -/
def encFrame (cmd p0 p1 : Byte) : Vector Byte 6 := #v[oh0, oh1, cmd, p0, p1, ot]

/-- The bytes of an inbound frame in arrival order (R72). -/
def inFrameBytes (echo p0 p1 p2 : Byte) : List Byte := [ih0, ih1, echo, p0, p1, p2, it0, it1]

/-- The payload `{p0, p1, p2}`, big-endian (R31, R53). -/
def payloadOf (p0 p1 p2 : Byte) : Payload := p0 ++ p1 ++ p2

/-- `raw[i]` (R8), for an index below the length. -/
def byteAt (raw : List Byte) (i : Nat) : Byte := raw.getD i 0

/-- The validation function `dec(raw, exp)` of R110, its checks in the order of R112. -/
def decFrame (raw : List Byte) (exp : Byte) : Verdict :=
  if raw.length = 0 then .noResponse
  else if raw.length = 1 ∧ byteAt raw 0 = ackByte then .ackOnly
  else if raw.length < inLen then .short
  else if byteAt raw 0 ≠ ih0 ∨ byteAt raw 1 ≠ ih1 then .header
  else if byteAt raw 6 ≠ it0 ∨ byteAt raw 7 ≠ it1 then .footer
  else if byteAt raw 2 ≠ exp then .echo
  else .ok (payloadOf (byteAt raw 3) (byteAt raw 4) (byteAt raw 5))

/-- The outcome of a `Timeout` (R138), from `rx_count` and `first_b`. -/
def timeoutVerdict (rxCount : Word32) (firstB : Byte) : Verdict :=
  if rxCount = 0 then .noResponse
  else if rxCount = 1 ∧ firstB = ackByte then .ackOnly
  else .short

/-- The engine state a transaction starts in (R130). -/
def startState : ScanOrigin → ScState
  | .zero => .seek
  | .two | .eight => .head

/-- The engine state after HEAD finds no header (R136). -/
def afterHead : ScanOrigin → ScState
  | .two => .seek
  | .zero | .eight => .skip

end Sys2Proof.Machine
end

