-- ==== Sys2Proof/Machine/Ops.lean ====
section
/-! DEFINITION. The named operations over the registers, the buffers and the streams, which the meanings share. -/

namespace Sys2Proof.Machine

/-- `refuse(cause)` (R206), the block's one way to record a misuse: it stands where an ISA would raise an exception (R9).
The first cause is kept (R34) and nothing else changes. There is no return from it (R210). -/
def State.refuse (c : MisuseCause) (s : State) : State :=
  { s with misuseCause := if s.misuse = false then c else s.misuseCause, misuse := true }

/-- Recording an outcome in the result registers (R111, R140, R201). -/
def State.record (v : Verdict) (s : State) : State :=
  { s with resKind := v.kind, resReason := v.reason, resPayload := v.payloadOr s.resPayload }

/-- `finish(k, r, p)` (R140): the outcome is recorded and the transaction ends. -/
def State.finish (v : Verdict) (s : State) : State :=
  { s with resKind := v.kind, resReason := v.reason, resPayload := v.payloadOr s.resPayload, sc := .idle }

/-- The start of a receive transaction (R130, R170). `fb`, `first_b` and `res_payload` are not cleared. -/
def State.startReceive (exp : Byte) (s : State) : State :=
  { s with
    expR := exp, fbLen := 0, rxCount := 0, discCount := 0, resKind := .none, resReason := .none,
    sc := startState s.cfg.scanOrigin }

/-- Building the outbound frame into `tx_buf` and pushing its bytes in index order (R51, R100). -/
def State.sendFrame (cmd p0 p1 : Byte) (s : State) : State :=
  { s with txBuf := encFrame cmd p0 p1, txs := s.txs ++ (encFrame cmd p0 p1).toList }

/-- RESET's register values (R171, R230). The streams keep their contents (R232). -/
def State.resetRegs (s : State) : State :=
  { s with
    sc := .idle, expR := 0x00, fb := #v[0x00, 0x00, 0x00, 0x00, 0x00, 0x00, 0x00, 0x00], fbLen := 0, firstB := 0x00,
    rxCount := 0, discCount := 0, resKind := .none, resReason := .none, resPayload := 0x000000,
    txBuf := #v[0x00, 0x00, 0x00, 0x00, 0x00, 0x00], misuse := false, misuseCause := .none }

/-- The guard of ENC, DEC, RECV and XFER: refused with BUSY while a transaction is in progress (R59, R204). -/
def whenIdle (op : State → State) (s : State) : State :=
  if s.sc = .idle then op s else s.refuse .busy

/-- Arrival steps that append the bytes to the tail of `rxq`, in order (R62). -/
def State.arriveAll (bs : List Byte) (s : State) : State := { s with rxq := s.rxq ++ bs }

/-- The flush of R233: the environment removes a prefix of `rxq`. -/
def State.flush (n : Nat) (s : State) : State := { s with rxq := s.rxq.drop n }

/-- What every `Byte` item does first (R132). -/
def State.takeByte (b : Byte) (s : State) : State :=
  { s with
    rxq := s.rxq.tail, firstB := if s.rxCount = 0 then b else s.firstB, rxCount := satAdd32 s.rxCount 1 }

/-- Counting `k` discarded bytes (R28). -/
def State.discard (k : Nat) (s : State) : State := { s with discCount := satAdd32 s.discCount k }

/-- `fb[i] <- b; fb_len <- n; sc <- c` (R24, R25, R133, R134). -/
def State.storeByte (i : Nat) (b : Byte) (n : BitVec 4) (c : ScState) (s : State) : State :=
  { s with fb := s.fb.setIfInBounds i b, fbLen := n, sc := c }

/-- `fb[fb_len] <- b; fb_len <- fb_len + 1` (R135, R136). -/
def State.appendByte (b : Byte) (s : State) : State :=
  { s with fb := s.fb.setIfInBounds s.fbLen.toNat b, fbLen := s.fbLen + 1 }

/-- Dropping the frame candidate and moving on: `fb_len <- 0; sc <- c` (R134, R136). -/
def State.dropFrame (c : ScState) (s : State) : State := { s with fbLen := 0, sc := c }

/-- `sc <- c`. -/
def State.goto (c : ScState) (s : State) : State := { s with sc := c }

/-- The turn that comes next: the head of `inputs`, or a free one (R10; log entry 7). -/
def State.nextInput (s : State) : Input :=
  match s.inputs with
  | i :: _ => i
  | [] => Config.freeInput s.draws

/-- The state with that turn used up. -/
def State.popInput (s : State) : State :=
  match s.inputs with
  | _ :: rest => { s with inputs := rest }
  | [] => { s with draws := s.draws + 1 }

/-- An input put before all others. -/
def State.pushInput (i : Input) (s : State) : State := { s with inputs := i :: s.inputs }

/-- The bytes a word did not take stay at the port, ahead of the other inputs (R82, R83, R84). -/
def State.returnRest (p : Port) (rest : List Byte) (s : State) : State :=
  { s with inputs := if rest = [] then s.inputs else .word p rest :: s.inputs }

end Sys2Proof.Machine
end

