-- ==== Sys2Proof/Machine/HostOps.lean ====
section
/-! DEFINITION. The meanings of the five host operations ENC, DEC, RECV, XFER and RESET. -/

namespace Sys2Proof.Machine

/-- ENC (R100): build and send an outbound frame. -/
def execEnc (cmd p0 p1 : Byte) (s : State) : Host.Outcome State Fault Refusal :=
  .next (whenIdle (fun s => s.sendFrame cmd p0 p1) s)

/-- DEC (R111): validate the bytes the host supplies. BAD_LEN is checked before BUSY (R207). -/
def execDec (exp n : Byte) (raw : List Byte) (s : State) : Host.Outcome State Fault Refusal :=
  if inLen < n.toNat then .next (s.refuse .badLen)
  else .next (whenIdle (fun s => s.record (decFrame (raw.take n.toNat) exp)) s)

/-- RECV (R130): start a receive transaction. -/
def execRecv (exp : Byte) (s : State) : Host.Outcome State Fault Refusal :=
  .next (whenIdle (fun s => s.startReceive exp) s)

/-- XFER (R170): send an outbound frame and start receiving its response, in one step. -/
def execXfer (cmd p0 p1 : Byte) (s : State) : Host.Outcome State Fault Refusal :=
  .next (whenIdle (fun s => (s.sendFrame cmd p0 p1).startReceive cmd) s)

/-- RESET (R171): accepted in every state, and it touches neither stream (R232). -/
def execReset (s : State) : Host.Outcome State Fault Refusal := .next s.resetRegs

end Sys2Proof.Machine
end

