-- ==== Sys2Proof/Machine/Reserved.lean ====
section
/-! DEFINITION. The meanings of the ten rows of reserved op bytes (R82, R172). Each refuses with RESERVED_OP, busy or
not (R207), and that record is its whole effect. -/

namespace Sys2Proof.Machine

/-- RESERVED, the row of op byte `0x00` (R172). -/
def execReserved00 (s : State) : Host.Outcome State Fault Refusal := .next (s.refuse .reservedOp)

/-- RESERVED, the row of op byte `0x05` (R172). -/
def execReserved05 (s : State) : Host.Outcome State Fault Refusal := .next (s.refuse .reservedOp)

/-- RESERVED, the row of op byte `0x06` (R172). -/
def execReserved06 (_low : BitVec 1) (s : State) : Host.Outcome State Fault Refusal := .next (s.refuse .reservedOp)

/-- RESERVED, the row of op byte `0x08` (R172). -/
def execReserved08 (_low : BitVec 2) (s : State) : Host.Outcome State Fault Refusal := .next (s.refuse .reservedOp)

/-- RESERVED, the row of op byte `0x0C` (R172). -/
def execReserved0C (_low : BitVec 1) (s : State) : Host.Outcome State Fault Refusal := .next (s.refuse .reservedOp)

/-- RESERVED, the row of op byte `0x0E` (R172). -/
def execReserved0E (s : State) : Host.Outcome State Fault Refusal := .next (s.refuse .reservedOp)

/-- RESERVED, the row of op byte `0x10` (R172). -/
def execReserved10 (_low : BitVec 4) (s : State) : Host.Outcome State Fault Refusal := .next (s.refuse .reservedOp)

/-- RESERVED, the row of op byte `0x20` (R172). -/
def execReserved20 (_low : BitVec 5) (s : State) : Host.Outcome State Fault Refusal := .next (s.refuse .reservedOp)

/-- RESERVED, the row of op byte `0x40` (R172). -/
def execReserved40 (_low : BitVec 6) (s : State) : Host.Outcome State Fault Refusal := .next (s.refuse .reservedOp)

/-- RESERVED, the row of op byte `0x80` (R172). -/
def execReserved80 (_low : BitVec 7) (s : State) : Host.Outcome State Fault Refusal := .next (s.refuse .reservedOp)

end Sys2Proof.Machine
end

