-- ==== Sys2Proof/Machine/WireIn.lean ====
section
/-! DEFINITION. The meanings of the inbound wire rows. An inbound word acts on the block by arriving: its bytes join
`rxq` in order (R62, R72, R73), and the receive engine takes and validates them in its own steps (R131 to R140). The
arrival is in one turn (log entry 4). -/

namespace Sys2Proof.Machine

/-- IN_FRAME (R62, R72). -/
def execInFrame (echo p0 p1 p2 : Byte) (s : State) : Host.Outcome State Fault Refusal :=
  .next (s.arriveAll (inFrameBytes echo p0 p1 p2))

/-- The inbound frame that answers `0x10` on/off (R62, R72, R74). -/
def execInOnOff (p0 p1 p2 : Byte) (s : State) : Host.Outcome State Fault Refusal :=
  .next (s.arriveAll (inFrameBytes (codeByte .onOff) p0 p1 p2))

/-- The inbound frame that answers `0x11` voltage (R62, R72, R74). -/
def execInVoltage (p0 p1 p2 : Byte) (s : State) : Host.Outcome State Fault Refusal :=
  .next (s.arriveAll (inFrameBytes (codeByte .voltage) p0 p1 p2))

/-- The inbound frame that answers `0x12` current (R62, R72, R74). -/
def execInCurrent (p0 p1 p2 : Byte) (s : State) : Host.Outcome State Fault Refusal :=
  .next (s.arriveAll (inFrameBytes (codeByte .current) p0 p1 p2))

/-- The inbound frame that answers `0x13` elapsed-time (R62, R72, R74). -/
def execInElapsedTime (p0 p1 p2 : Byte) (s : State) : Host.Outcome State Fault Refusal :=
  .next (s.arriveAll (inFrameBytes (codeByte .elapsedTime) p0 p1 p2))

/-- The inbound frame that answers `0x14` capacity-Ah (R62, R72, R74). -/
def execInCapacityAh (p0 p1 p2 : Byte) (s : State) : Host.Outcome State Fault Refusal :=
  .next (s.arriveAll (inFrameBytes (codeByte .capacityAh) p0 p1 p2))

/-- The inbound frame that answers `0x15` capacity-Wh (R62, R72, R74). -/
def execInCapacityWh (p0 p1 p2 : Byte) (s : State) : Host.Outcome State Fault Refusal :=
  .next (s.arriveAll (inFrameBytes (codeByte .capacityWh) p0 p1 p2))

/-- The inbound frame that answers `0x16` temperature (R62, R72, R74). -/
def execInTemperature (p0 p1 p2 : Byte) (s : State) : Host.Outcome State Fault Refusal :=
  .next (s.arriveAll (inFrameBytes (codeByte .temperature) p0 p1 p2))

/-- The inbound frame that answers `0x17` current-limit (R62, R72, R74). -/
def execInCurrentLimit (p0 p1 p2 : Byte) (s : State) : Host.Outcome State Fault Refusal :=
  .next (s.arriveAll (inFrameBytes (codeByte .currentLimit) p0 p1 p2))

/-- The inbound frame that answers `0x18` voltage-limit (R62, R72, R74). -/
def execInVoltageLimit (p0 p1 p2 : Byte) (s : State) : Host.Outcome State Fault Refusal :=
  .next (s.arriveAll (inFrameBytes (codeByte .voltageLimit) p0 p1 p2))

/-- The inbound frame that answers `0x19` timer (R62, R72, R74). -/
def execInTimer (p0 p1 p2 : Byte) (s : State) : Host.Outcome State Fault Refusal :=
  .next (s.arriveAll (inFrameBytes (codeByte .timer) p0 p1 p2))

/-- ACK: the acknowledgment byte arrives (R62, R73). A transaction that consumed only this byte ends ACK_ONLY (R138). -/
def execAck (s : State) : Host.Outcome State Fault Refusal := .next (s.arriveAll [ackByte])

end Sys2Proof.Machine
end

