-- ==== Sys2Proof/Machine/WireOut.lean ====
section
/-! DEFINITION. The meanings of the outbound frame rows. The table gives them R100: an outbound frame is put on the wire
by ENC's operation with the frame's command and payload, so that operation is what each row does (log entry 3). -/

namespace Sys2Proof.Machine

/-- The operation of R100 that puts the frame of `cmd p0 p1` on the wire: refused with BUSY during a transaction. -/
def sendOnWire (cmd p0 p1 : Byte) (s : State) : State := whenIdle (fun s => s.sendFrame cmd p0 p1) s

/-- OUT_FRAME (R71, R100). -/
def execOutFrame (cmd p0 p1 : Byte) (s : State) : Host.Outcome State Fault Refusal := .next (sendOnWire cmd p0 p1 s)

/-- The outbound frame of `0x01` output-enable (R74, R100). -/
def execOutOutputEnable (p0 p1 : Byte) (s : State) : Host.Outcome State Fault Refusal :=
  .next (sendOnWire (codeByte .outputEnable) p0 p1 s)

/-- The outbound frame of `0x02` set-current (R74, R100). -/
def execOutSetCurrent (p0 p1 : Byte) (s : State) : Host.Outcome State Fault Refusal :=
  .next (sendOnWire (codeByte .setCurrent) p0 p1 s)

/-- The outbound frame of `0x03` set-voltage-cutoff (R74, R100). -/
def execOutSetVoltageCutoff (p0 p1 : Byte) (s : State) : Host.Outcome State Fault Refusal :=
  .next (sendOnWire (codeByte .setVoltageCutoff) p0 p1 s)

/-- The outbound frame of `0x04` set-timer (R74, R100). -/
def execOutSetTimer (p0 p1 : Byte) (s : State) : Host.Outcome State Fault Refusal :=
  .next (sendOnWire (codeByte .setTimer) p0 p1 s)

/-- The outbound frame of `0x05` reset (R74, R100). -/
def execOutReset (p0 p1 : Byte) (s : State) : Host.Outcome State Fault Refusal :=
  .next (sendOnWire (codeByte .reset) p0 p1 s)

/-- The outbound frame of `0x06` set-mode (R74, R100). -/
def execOutSetMode (p0 p1 : Byte) (s : State) : Host.Outcome State Fault Refusal :=
  .next (sendOnWire (codeByte .setMode) p0 p1 s)

/-- The outbound frame of `0x10` on/off (R74, R100). -/
def execOutOnOff (p0 p1 : Byte) (s : State) : Host.Outcome State Fault Refusal :=
  .next (sendOnWire (codeByte .onOff) p0 p1 s)

/-- The outbound frame of `0x11` voltage (R74, R100). -/
def execOutVoltage (p0 p1 : Byte) (s : State) : Host.Outcome State Fault Refusal :=
  .next (sendOnWire (codeByte .voltage) p0 p1 s)

/-- The outbound frame of `0x12` current (R74, R100). -/
def execOutCurrent (p0 p1 : Byte) (s : State) : Host.Outcome State Fault Refusal :=
  .next (sendOnWire (codeByte .current) p0 p1 s)

/-- The outbound frame of `0x13` elapsed-time (R74, R100). -/
def execOutElapsedTime (p0 p1 : Byte) (s : State) : Host.Outcome State Fault Refusal :=
  .next (sendOnWire (codeByte .elapsedTime) p0 p1 s)

/-- The outbound frame of `0x14` capacity-Ah (R74, R100). -/
def execOutCapacityAh (p0 p1 : Byte) (s : State) : Host.Outcome State Fault Refusal :=
  .next (sendOnWire (codeByte .capacityAh) p0 p1 s)

/-- The outbound frame of `0x15` capacity-Wh (R74, R100). -/
def execOutCapacityWh (p0 p1 : Byte) (s : State) : Host.Outcome State Fault Refusal :=
  .next (sendOnWire (codeByte .capacityWh) p0 p1 s)

/-- The outbound frame of `0x16` temperature (R74, R100). -/
def execOutTemperature (p0 p1 : Byte) (s : State) : Host.Outcome State Fault Refusal :=
  .next (sendOnWire (codeByte .temperature) p0 p1 s)

/-- The outbound frame of `0x17` current-limit (R74, R100). -/
def execOutCurrentLimit (p0 p1 : Byte) (s : State) : Host.Outcome State Fault Refusal :=
  .next (sendOnWire (codeByte .currentLimit) p0 p1 s)

/-- The outbound frame of `0x18` voltage-limit (R74, R100). -/
def execOutVoltageLimit (p0 p1 : Byte) (s : State) : Host.Outcome State Fault Refusal :=
  .next (sendOnWire (codeByte .voltageLimit) p0 p1 s)

/-- The outbound frame of `0x19` timer (R74, R100). -/
def execOutTimer (p0 p1 : Byte) (s : State) : Host.Outcome State Fault Refusal :=
  .next (sendOnWire (codeByte .timer) p0 p1 s)

end Sys2Proof.Machine
end

