-- ==== Sys2Proof/Machine/Dispatch.lean ====
section
/-! DEFINITION. One arm per instruction, each one direct call of its meaning. -/

namespace Sys2Proof.Machine

def exec (i : Instr) (s : State) : Host.Outcome State Fault Refusal :=
  match i with
  -- host operations
  | .enc cmd p0 p1 => Sys2Proof.Machine.execEnc cmd p0 p1 s
  | .dec exp n raw => Sys2Proof.Machine.execDec exp n raw s
  | .recv exp => Sys2Proof.Machine.execRecv exp s
  | .xfer cmd p0 p1 => Sys2Proof.Machine.execXfer cmd p0 p1 s
  | .reset => Sys2Proof.Machine.execReset s
  -- reserved op bytes
  | .reserved00 => Sys2Proof.Machine.execReserved00 s
  | .reserved05 => Sys2Proof.Machine.execReserved05 s
  | .reserved06 low => Sys2Proof.Machine.execReserved06 low s
  | .reserved08 low => Sys2Proof.Machine.execReserved08 low s
  | .reserved0C low => Sys2Proof.Machine.execReserved0C low s
  | .reserved0E => Sys2Proof.Machine.execReserved0E s
  | .reserved10 low => Sys2Proof.Machine.execReserved10 low s
  | .reserved20 low => Sys2Proof.Machine.execReserved20 low s
  | .reserved40 low => Sys2Proof.Machine.execReserved40 low s
  | .reserved80 low => Sys2Proof.Machine.execReserved80 low s
  -- outbound frames
  | .outFrame cmd p0 p1 => Sys2Proof.Machine.execOutFrame cmd p0 p1 s
  | .outOutputEnable p0 p1 => Sys2Proof.Machine.execOutOutputEnable p0 p1 s
  | .outSetCurrent p0 p1 => Sys2Proof.Machine.execOutSetCurrent p0 p1 s
  | .outSetVoltageCutoff p0 p1 => Sys2Proof.Machine.execOutSetVoltageCutoff p0 p1 s
  | .outSetTimer p0 p1 => Sys2Proof.Machine.execOutSetTimer p0 p1 s
  | .outReset p0 p1 => Sys2Proof.Machine.execOutReset p0 p1 s
  | .outSetMode p0 p1 => Sys2Proof.Machine.execOutSetMode p0 p1 s
  | .outOnOff p0 p1 => Sys2Proof.Machine.execOutOnOff p0 p1 s
  | .outVoltage p0 p1 => Sys2Proof.Machine.execOutVoltage p0 p1 s
  | .outCurrent p0 p1 => Sys2Proof.Machine.execOutCurrent p0 p1 s
  | .outElapsedTime p0 p1 => Sys2Proof.Machine.execOutElapsedTime p0 p1 s
  | .outCapacityAh p0 p1 => Sys2Proof.Machine.execOutCapacityAh p0 p1 s
  | .outCapacityWh p0 p1 => Sys2Proof.Machine.execOutCapacityWh p0 p1 s
  | .outTemperature p0 p1 => Sys2Proof.Machine.execOutTemperature p0 p1 s
  | .outCurrentLimit p0 p1 => Sys2Proof.Machine.execOutCurrentLimit p0 p1 s
  | .outVoltageLimit p0 p1 => Sys2Proof.Machine.execOutVoltageLimit p0 p1 s
  | .outTimer p0 p1 => Sys2Proof.Machine.execOutTimer p0 p1 s
  -- inbound frames and the acknowledgment
  | .inFrame echo p0 p1 p2 => Sys2Proof.Machine.execInFrame echo p0 p1 p2 s
  | .inOnOff p0 p1 p2 => Sys2Proof.Machine.execInOnOff p0 p1 p2 s
  | .inVoltage p0 p1 p2 => Sys2Proof.Machine.execInVoltage p0 p1 p2 s
  | .inCurrent p0 p1 p2 => Sys2Proof.Machine.execInCurrent p0 p1 p2 s
  | .inElapsedTime p0 p1 p2 => Sys2Proof.Machine.execInElapsedTime p0 p1 p2 s
  | .inCapacityAh p0 p1 p2 => Sys2Proof.Machine.execInCapacityAh p0 p1 p2 s
  | .inCapacityWh p0 p1 p2 => Sys2Proof.Machine.execInCapacityWh p0 p1 p2 s
  | .inTemperature p0 p1 p2 => Sys2Proof.Machine.execInTemperature p0 p1 p2 s
  | .inCurrentLimit p0 p1 p2 => Sys2Proof.Machine.execInCurrentLimit p0 p1 p2 s
  | .inVoltageLimit p0 p1 p2 => Sys2Proof.Machine.execInVoltageLimit p0 p1 p2 s
  | .inTimer p0 p1 p2 => Sys2Proof.Machine.execInTimer p0 p1 p2 s
  | .ack => Sys2Proof.Machine.execAck s

end Sys2Proof.Machine
end

