-- ==== Sys2Proof/Machine/Receive.lean ====
section
/-! DEFINITION. The receive engine: the item it takes (R131) and the rule of each engine state (R132 to R140). -/

namespace Sys2Proof.Machine

/-- `RxTake()` (R52, R131): a failing read gives `Error`; else the head byte of `rxq`, or `Timeout` when it is empty. -/
def State.rxTake (t : Transport) (s : State) : Item :=
  match t with
  | .fails => .error
  | .delivers =>
    match s.rxq with
    | b :: _ => .byte b
    | [] => .timeout

/-- SEEK (R133). -/
def seekByte (b : Byte) (s : State) : State :=
  if b = ih0 then s.storeByte 0 ih0 1 .confirm else s.discard 1

/-- CONFIRM (R134). -/
def confirmByte (b : Byte) (s : State) : State :=
  if b = ih1 then s.storeByte 1 ih1 2 .collect
  else if b = ih0 then s.discard 1
  else (s.discard 2).dropFrame .seek

/-- The end of COLLECT (R135): the eighth byte validates the frame and ends the transaction. -/
def collectDone (s : State) : State :=
  if s.fbLen = 8 then s.finish (decFrame s.fb.toList s.expR) else s

/-- COLLECT (R135). -/
def collectByte (b : Byte) (s : State) : Host.Outcome State Fault Refusal :=
  if s.fbLen.toNat < inLen then .next (collectDone (s.appendByte b)) else .fault .frameIndex

/-- The end of HEAD (R136): two bytes decide between COLLECT and dropping them. -/
def headDone (s : State) : State :=
  if s.fbLen = 2 then
    if s.fb[0] = ih0 ∧ s.fb[1] = ih1 then s.goto .collect
    else (s.discard 2).dropFrame (afterHead s.cfg.scanOrigin)
  else s

/-- HEAD (R136). -/
def headByte (b : Byte) (s : State) : Host.Outcome State Fault Refusal :=
  if s.fbLen.toNat < inLen then .next (headDone (s.appendByte b)) else .fault .frameIndex

/-- The end of SKIP (R137). -/
def skipDone (s : State) : State :=
  if s.rxCount.toNat = originValue s.cfg.scanOrigin then s.goto .seek else s

/-- SKIP (R137). -/
def skipByte (s : State) : State := skipDone (s.discard 1)

/-- The rule of the current state for a byte already taken (R133 to R137). IDLE has no rule: no receive step is enabled
there (R131). -/
def byteRule (b : Byte) (s : State) : Host.Outcome State Fault Refusal :=
  match s.sc with
  | .idle => .next s
  | .seek => .next (seekByte b s)
  | .confirm => .next (confirmByte b s)
  | .collect => collectByte b s
  | .head => headByte b s
  | .skip => .next (skipByte s)

/-- What an item does in a busy state: a byte (R132), a `Timeout` (R138) or an `Error` (R139). -/
def State.takeItem (i : Item) (s : State) : Host.Outcome State Fault Refusal :=
  match i with
  | .byte b => byteRule b (s.takeByte b)
  | .timeout => .next (s.finish (timeoutVerdict s.rxCount s.firstB))
  | .error => .next (s.finish .transportError)

/-- A receive step (R131). It is enabled exactly when the block is busy; the engine's turn passes without effect while
it is idle (log entry 8). -/
def receiveStep (t : Transport) (s : State) : Host.Outcome State Fault Refusal :=
  if s.sc = .idle then .next s else s.takeItem (s.rxTake t)

end Sys2Proof.Machine
end

