-- ==== Sys2Proof/Machine/Agents.lean ====
section
/-! DEFINITION. One turn of the world around the block: a word at a port, an arrival, the receive engine's turn, a flush. -/

namespace Sys2Proof.Machine

/-- What the machine answers where the bytes at a port are no instruction. -/
def refusalOf : DecodeError → Refusal
  | .truncated => .incompleteWord
  | .noRow => .noTableRow

/-- A word at a port: the decoded instruction runs, and the bytes after it stay at the port (R84). -/
def runWord (p : Port) (bytes : List Byte) (s : State) : Host.Outcome State Fault Refusal :=
  match decode p bytes with
  | .ok (i, rest) => exec i (s.returnRest p rest)
  | .error e => .refused (refusalOf e)

/-- What a turn does: a host step, an arrival step, a receive step (R10) or the flush (R233). -/
def deliver (i : Input) (s : State) : Host.Outcome State Fault Refusal :=
  match i with
  | .word p bytes => runWord p bytes s
  | .arrive b => .next (s.arriveAll [b])
  | .receive t => receiveStep t s
  | .flush n => .next (s.flush n)

/-- The next turn is taken from the schedule and carried out. -/
def takeTurn (s : State) : Host.Outcome State Fault Refusal := deliver s.nextInput s.popInput

/-- A table word placed where the next turn is read from. -/
def State.placeTableWord (s : State) (nbits w : Nat) : State := s.pushInput (tableInput nbits w)

end Sys2Proof.Machine
end

