-- ==== Sys2Proof/Machine/Step.lean ====
section
/-! DEFINITION. One step of the machine, and the placing of a table word as its next turn. -/

namespace Sys2Proof.Machine

/-- One step (R10): the next turn is carried out. -/
def step (s : State) : Host.Outcome State Fault Refusal := takeTurn s

/-- `s` with the instruction of a table word presented at its port as the very next turn (log entry 15). -/
def State.withFetchWord (s : State) (nbits w : Nat) : State := s.placeTableWord nbits w

end Sys2Proof.Machine
end

