-- ==== Sys2Proof/Safety.lean ====
section
/-! DEFINITION. The terms claims are made in: the invariant of the receive engine, runs of scheduled turns, the closed
form of a scan, agreement of two states up to meaningless bytes, and fairness. -/

namespace Sys2Proof.Machine

/-- The invariant of the block. -/
structure State.Inv (s : State) : Prop where
  /-- `fb_len` by engine state (R25) -/
  lenIdle : s.sc = .idle → s.fbLen.toNat ≤ 8
  lenSeek : s.sc = .seek → s.fbLen.toNat = 0
  lenConfirm : s.sc = .confirm → s.fbLen.toNat = 1
  lenCollect : s.sc = .collect → 2 ≤ s.fbLen.toNat ∧ s.fbLen.toNat ≤ 7
  lenHead : s.sc = .head → s.fbLen.toNat ≤ 1
  lenSkip : s.sc = .skip → s.fbLen.toNat = 0
  /-- CONFIRM holds the candidate `0xCA` (R134) -/
  headerConfirm : s.sc = .confirm → s.fb[0] = 0xCA
  /-- COLLECT holds the header `0xCA 0xCB` (R135, R143) -/
  headerCollect : s.sc = .collect → s.fb[0] = 0xCA ∧ s.fb[1] = 0xCB
  /-- HEAD is entered only when SCAN_ORIGIN is not 0 (R21, R136) -/
  originHead : s.sc = .head → s.cfg.scanOrigin ≠ .zero
  /-- SKIP is entered only when SCAN_ORIGIN is 8 (R21, R137) -/
  originSkip : s.sc = .skip → s.cfg.scanOrigin = .eight
  /-- HEAD has consumed what it holds and discarded nothing (R136) -/
  countHead : s.sc = .head → s.rxCount.toNat = s.fbLen.toNat ∧ s.discCount.toNat = 0
  /-- SKIP lasts from the third byte to the eighth (R136, R137) -/
  countSkip : s.sc = .skip → 2 ≤ s.rxCount.toNat ∧ s.rxCount.toNat ≤ 7
  /-- every consumed byte is discarded and counted, or held in `fb` (R145) -/
  count : s.rxCount.toNat < 2 ^ 32 - 1 → s.rxCount.toNat = s.discCount.toNat + s.fbLen.toNat
  /-- `res_reason` is NONE exactly when `res_kind` is not FRAME_MISMATCH (R30, R200) -/
  reason : s.resReason = .none ↔ s.resKind ≠ .frameMismatch
  /-- `res_kind` is NONE while a transaction is in progress (R29, R130) -/
  kindBusy : s.sc ≠ .idle → s.resKind = .none
  /-- a cause is recorded exactly when `misuse` is set (R33, R34) -/
  cause : s.misuseCause = .none ↔ s.misuse = false

/-- A safe end: the host has not broken the protocol's rules of use (R206: claims take `misuse = 0` as a premise). -/
abbrev State.NoMisuse (s : State) : Prop := s.misuse = false

/-- `n` turns of the machine. -/
def run (n : Nat) (s : State) : Host.Outcome State Fault Refusal := Host.Core.run Sys2Proof.core n s

/-- `n` turns of the receive engine with a transport that answers. -/
def receiveTurns (n : Nat) : List Input := List.replicate n (.receive .delivers)

/-- `L(S)` of R143: the least index of an adjacent pair `0xCA 0xCB`. -/
def lockIndex : List Byte → Option Nat
  | a :: b :: t => if a = 0xCA ∧ b = 0xCB then some 0 else (lockIndex (b :: t)).map (· + 1)
  | _ => none

/-- The lock index of R149: index 0 when the first two bytes are the header, else the least one at or above SCAN_ORIGIN.
With SCAN_ORIGIN 0 it is `lockIndex`. -/
def lockIndexFrom (k : Nat) (S : List Byte) : Option Nat :=
  if S.take 2 = [0xCA, 0xCB] then some 0 else (lockIndex (S.drop k)).map (· + k)

/-- A transaction that has consumed nothing yet, as RECV and XFER leave it (R130). -/
abbrev State.FreshReceive (s : State) : Prop :=
  s.sc = startState s.cfg.scanOrigin ∧ s.fbLen = 0 ∧ s.rxCount = 0 ∧ s.discCount = 0

/-- Two states that differ at most in bytes without meaning: `fb[i]` for `i ≥ fb_len`, `first_b` of a transaction that
consumed nothing, and `res_payload` under a kind other than OK (R24, R26, R237; 93 I20 to I22). -/
def State.Agree (s t : State) : Prop :=
  t = { s with fb := t.fb, firstB := t.firstB, resPayload := t.resPayload } ∧
  (∀ i : Fin 8, i.val < s.fbLen.toNat → s.fb[i] = t.fb[i]) ∧
  (s.rxCount ≠ 0 → s.firstB = t.firstB) ∧
  (s.resKind = .ok → s.resPayload = t.resPayload)

/-- The turn belongs to the receive engine. -/
def isReceiveTurn : Input → Bool
  | .receive _ => true
  | _ => false

/-- Weak fairness of R131: the receive engine's turn comes again and again. A premise for claims about endless runs; the
step does not build it in (log entry 16). -/
def FairTurns (turns : Nat → Input) : Prop := ∀ n, ∃ m, n ≤ m ∧ isReceiveTurn (turns m) = true

end Sys2Proof.Machine
end

