-- ==== Sys2Proof/Certificates/Slice0/Obligations.lean ====
section
/-! DEFINITION. The statements for the provers. Each docstring names the rules of spec/ it formalises; where a statement
rests on a choice of the model, it names the log entry. -/

open Sys2Proof Sys2Proof.Machine

/-! ## Decoding and encoding -/

/-- Decode and encode agree (R71 to R84): a well-formed instruction's word decodes to it, with every operand, and at the
host port whatever bytes follow the word are handed back. -/
def Obligations.DecodeEncodeRoundTrip : Prop :=
  ∀ (i : Instr) (rest : List Byte), i.wellFormed = true →
    decode i.port (encode i) = .ok (i, []) ∧
    (i.port = .host → decode .host (encode i ++ rest) = .ok (i, rest))

/-- The other direction: bytes that decode at a port are the word of a well-formed instruction of that port, followed by
the bytes handed back. -/
def Obligations.EncodeDecodeExact : Prop :=
  ∀ (p : Port) (bytes : List Byte) (i : Instr) (rest : List Byte), decode p bytes = .ok (i, rest) →
    i.wellFormed = true ∧ i.port = p ∧ encode i ++ rest = bytes

/-- Words of spec/95_test_vectors.md, written out, decode to the instructions they stand for. -/
def Obligations.SpecWordsDecode : Prop :=
  decode .host [0x01, 0x03, 0x0C, 0x22] = .ok (.enc 0x03 0x0C 0x22, []) ∧
  decode .host [0x02, 0x11, 0x08, 0xCA, 0xCB, 0x11, 0x00, 0x03, 0xE8, 0xCE, 0xCF] =
    .ok (.dec 0x11 0x08 [0xCA, 0xCB, 0x11, 0x00, 0x03, 0xE8, 0xCE, 0xCF], []) ∧
  decode .host [0x02, 0x11, 0x09] = .ok (.dec 0x11 0x09 [], []) ∧
  decode .host [0x03, 0x11] = .ok (.recv 0x11, []) ∧
  decode .host [0x04, 0x11, 0x00, 0x00] = .ok (.xfer 0x11 0x00 0x00, []) ∧
  decode .host [0x0F] = .ok (.reset, []) ∧
  decode .host [0xFF] = .ok (.reserved80 0x7F, []) ∧
  decode .lineOut [0xB1, 0xB2, 0x11, 0x00, 0x00, 0xB6] = .ok (.outVoltage 0x00 0x00, []) ∧
  decode .lineIn [0xCA, 0xCB, 0x13, 0x01, 0x02, 0x03, 0xCE, 0xCF] = .ok (.inElapsedTime 0x01 0x02 0x03, []) ∧
  decode .lineIn [0x6F] = .ok (.ack, [])

/-- The assembler emits the host word of R76 for each line (R90) and the expansions of R91. The pseudo-instructions add
no behaviour. R90 gives `.byte` for a reserved op only; its clause for the ops `0x01` to `0x04` and `0x0F` is the model's
choice (DESIGN CHOICE, log entry 24). -/
def Obligations.AssemblerEmitsHostWords : Prop :=
  (∀ cmd p0 p1 : Byte, assemble (.enc cmd p0 p1) = [0x01, cmd, p0, p1] ∧ assemble (.xfer cmd p0 p1) = [0x04, cmd, p0, p1] ∧
    assemble (.query cmd p0 p1) = assemble (.xfer cmd p0 p1)) ∧
  (∀ (exp : Byte) (raw : List Byte), raw.length ≤ 8 →
    assemble (.dec exp raw) = [0x02, exp, BitVec.ofNat 8 raw.length] ++ raw ∧
    decode .host (assemble (.dec exp raw)) = .ok (.dec exp (BitVec.ofNat 8 raw.length) raw, [])) ∧
  (∀ exp : Byte, assemble (.recv exp) = [0x03, exp]) ∧
  assemble .reset = [0x0F] ∧
  (∀ op : Byte, assemble (.byte op) = [op]) ∧
  assemble .outputOn = assemble (.enc 0x01 0x01 0x00) ∧
  assemble .outputOff = assemble (.enc 0x01 0x00 0x00) ∧
  (∀ (cmd : Byte) (v : BitVec 16), ∃ hi lo : Byte, assemble (.enc16 cmd v) = assemble (.enc cmd hi lo) ∧ hi ++ lo = v)

/-! ## The step -/

/-- A step runs the decoded instruction (R10, R76): when the next turn presents bytes that decode, the step is the
instruction's meaning, in the state where the turn is used up. R84 gives the word its length; that the bytes after it stay
at the port and are the very next turn is the model's choice (DESIGN CHOICE, log entry 13), not the spec's. -/
def Obligations.StepRunsDecodedInstruction : Prop :=
  ∀ (s : State) (p : Port) (bytes rest : List Byte) (i : Instr) (more : List Input),
    s.inputs = .word p bytes :: more → decode p bytes = .ok (i, rest) →
    step s = exec i { s with inputs := if rest = [] then more else .word p rest :: more }

/-- An arrival step appends one byte to the tail of `rxq` and changes nothing else, busy or not (R62). -/
def Obligations.StepAppendsArrivedByte : Prop :=
  ∀ (s : State) (b : Byte) (more : List Input), s.inputs = .arrive b :: more →
    step s = .next { s with inputs := more, rxq := s.rxq ++ [b] }

/-- The flush removes a prefix of `rxq` and changes nothing else (R233; the model's choice of an environment step, log
entry 10). -/
def Obligations.StepFlushesPrefix : Prop :=
  ∀ (s : State) (n : Nat) (more : List Input), s.inputs = .flush n :: more →
    step s = .next { s with inputs := more, rxq := s.rxq.drop n }

/-- With nothing scheduled, the step carries out the free turn, whatever it is (R10; the model's choice, log entry 7). -/
def Obligations.StepDrawsFreeTurn : Prop :=
  ∀ s : State, s.inputs = [] →
    step s = deliver (Config.freeInput s.draws) { s with draws := s.draws + 1 }

/-- The engine's turn passes without effect while the block is idle (R131: no receive step is enabled there; that the
turn passes is the model's choice, log entry 8). -/
def Obligations.IdleEngineTurnPasses : Prop :=
  ∀ (s : State) (tr : Transport) (more : List Input), s.sc = .idle → s.inputs = .receive tr :: more →
    step s = .next { s with inputs := more }

/-! ## The host operations -/

/-- ENC (R100), read from its host word: in IDLE the frame goes to `tx_buf` and, byte 0 first, to `txs`; while busy it is refused with BUSY.
Nothing else changes. -/
def Obligations.EncBuildsAndSendsFrame : Prop :=
  ∀ (cmd p0 p1 : Byte) (s : State),
    decode .host [0x01, cmd, p0, p1] = .ok (.enc cmd p0 p1, []) ∧
    (s.sc = .idle → exec (.enc cmd p0 p1) s =
      .next { s with
        txBuf := #v[0xB1, 0xB2, cmd, p0, p1, 0xB6], txs := s.txs ++ [0xB1, 0xB2, cmd, p0, p1, 0xB6] }) ∧
    (s.sc ≠ .idle → exec (.enc cmd p0 p1) s =
      .next { s with misuse := true, misuseCause := if s.misuse = true then s.misuseCause else .busy })

/-- The validation function `dec` (R110) on its domain, each outcome by the inputs that give it, and the kind and reason
of each outcome as R110's triple and R200's table have them. -/
def Obligations.DecFrameOutcomes : Prop :=
  (∀ (raw : List Byte) (exp : Byte), raw.length ≤ 8 →
    (decFrame raw exp = .noResponse ↔ raw = []) ∧
    (decFrame raw exp = .ackOnly ↔ raw = [0x6F]) ∧
    (decFrame raw exp = .short ↔ raw ≠ [] ∧ raw ≠ [0x6F] ∧ raw.length < 8) ∧
    (decFrame raw exp = .header ↔ raw.length = 8 ∧ raw.take 2 ≠ [0xCA, 0xCB]) ∧
    (decFrame raw exp = .footer ↔ raw.length = 8 ∧ raw.take 2 = [0xCA, 0xCB] ∧ raw.drop 6 ≠ [0xCE, 0xCF]) ∧
    (decFrame raw exp = .echo ↔
      ∃ e p0 p1 p2 : Byte, raw = [0xCA, 0xCB, e, p0, p1, p2, 0xCE, 0xCF] ∧ e ≠ exp) ∧
    (∀ v : Payload, decFrame raw exp = .ok v ↔
      ∃ p0 p1 p2 : Byte, raw = [0xCA, 0xCB, exp, p0, p1, p2, 0xCE, 0xCF] ∧ v = p0 ++ p1 ++ p2)) ∧
  (∀ v : Payload, (Verdict.ok v).kind = .ok ∧ (Verdict.ok v).reason = .none) ∧
  (Verdict.noResponse.kind = .noResponse ∧ Verdict.noResponse.reason = .none) ∧
  (Verdict.ackOnly.kind = .ackOnly ∧ Verdict.ackOnly.reason = .none) ∧
  (Verdict.short.kind = .frameMismatch ∧ Verdict.short.reason = .short) ∧
  (Verdict.header.kind = .frameMismatch ∧ Verdict.header.reason = .header) ∧
  (Verdict.footer.kind = .frameMismatch ∧ Verdict.footer.reason = .footer) ∧
  (Verdict.echo.kind = .frameMismatch ∧ Verdict.echo.reason = .echo)

/-- DEC (R111), read from its host word: BAD_LEN when `n > 8`, busy or not; else BUSY while busy; else the outcome of `dec` is recorded, the
payload only on OK, and nothing else changes. -/
def Obligations.DecJudgesHostBytes : Prop :=
  ∀ (exp n : Byte) (raw : List Byte) (s : State),
    (n.toNat ≤ 8 → raw.length = n.toNat → decode .host (0x02 :: exp :: n :: raw) = .ok (.dec exp n raw, [])) ∧
    (8 < n.toNat → exec (.dec exp n raw) s =
      .next { s with misuse := true, misuseCause := if s.misuse = true then s.misuseCause else .badLen }) ∧
    (n.toNat ≤ 8 → s.sc ≠ .idle → exec (.dec exp n raw) s =
      .next { s with misuse := true, misuseCause := if s.misuse = true then s.misuseCause else .busy }) ∧
    (n.toNat ≤ 8 → raw.length = n.toNat → s.sc = .idle → exec (.dec exp n raw) s =
      .next { s with
        resKind := (decFrame raw exp).kind
        resReason := (decFrame raw exp).reason
        resPayload := match decFrame raw exp with | .ok v => v | _ => s.resPayload })

/-- An IN_ row's word is what `dec` accepts for its echo (R72, R110): OK with the payload exactly on the inbound frame of
the expected command. -/
def Obligations.DecAcceptsExactlyInFrames : Prop :=
  ∀ (raw : List Byte) (exp : Byte) (v : Payload), raw.length ≤ 8 →
    (decFrame raw exp = .ok v ↔
      ∃ p0 p1 p2 : Byte, decode .lineIn raw = .ok (inInstr exp p0 p1 p2, []) ∧ v = p0 ++ p1 ++ p2)

/-- RECV (R130), read from its host word: in IDLE a transaction starts, in SEEK when SCAN_ORIGIN is 0 and in HEAD else; while busy it is refused
with BUSY. Nothing is consumed, and `fb`, `first_b` and `res_payload` keep their values. -/
def Obligations.RecvStartsTransaction : Prop :=
  ∀ (exp : Byte) (s : State),
    decode .host [0x03, exp] = .ok (.recv exp, []) ∧
    (s.sc = .idle → exec (.recv exp) s =
      .next { s with
        expR := exp, fbLen := 0, rxCount := 0, discCount := 0, resKind := .none, resReason := .none
        sc := if s.cfg.scanOrigin = .zero then .seek else .head }) ∧
    (s.sc ≠ .idle → exec (.recv exp) s =
      .next { s with misuse := true, misuseCause := if s.misuse = true then s.misuseCause else .busy })

/-- XFER (R170), read from its host word: in IDLE the frame is sent and a transaction for `cmd` starts, in one step; while busy it is refused with
BUSY and nothing is sent. -/
def Obligations.XferSendsAndReceives : Prop :=
  ∀ (cmd p0 p1 : Byte) (s : State),
    decode .host [0x04, cmd, p0, p1] = .ok (.xfer cmd p0 p1, []) ∧
    (s.sc = .idle → exec (.xfer cmd p0 p1) s =
      .next { s with
        txBuf := #v[0xB1, 0xB2, cmd, p0, p1, 0xB6], txs := s.txs ++ [0xB1, 0xB2, cmd, p0, p1, 0xB6]
        expR := cmd, fbLen := 0, rxCount := 0, discCount := 0, resKind := .none, resReason := .none
        sc := if s.cfg.scanOrigin = .zero then .seek else .head }) ∧
    (s.sc ≠ .idle → exec (.xfer cmd p0 p1) s =
      .next { s with misuse := true, misuseCause := if s.misuse = true then s.misuseCause else .busy })

/-- XFER is ENC followed by RECV for the same command (R170, 92 D22). -/
def Obligations.EncThenRecvIsXfer : Prop :=
  ∀ (cmd p0 p1 : Byte) (s : State), s.sc = .idle →
    ∃ u, exec (.enc cmd p0 p1) s = .next u ∧ exec (.recv cmd) u = exec (.xfer cmd p0 p1) s

/-- RESET (R171), read from its host word: in every state, every register takes its reset value, the streams keep their
contents, and STATUS reads zero. -/
def Obligations.ResetRestoresRegisters : Prop :=
  decode .host [0x0F] = .ok (.reset, []) ∧
  ∀ s t : State,
    t = { s with
      sc := .idle, expR := 0x00, fb := #v[0, 0, 0, 0, 0, 0, 0, 0], fbLen := 0, firstB := 0x00, rxCount := 0
      discCount := 0, resKind := .none, resReason := .none, resPayload := 0, txBuf := #v[0, 0, 0, 0, 0, 0]
      misuse := false, misuseCause := .none } →
    exec .reset s = .next t ∧ t.statusWord = 0x00000000

/-- The reset state (R230): every register's value, the same after power-on reset and after RESET, and the views. -/
def Obligations.ResetStateValues : Prop :=
  (State.reset.sc = .idle ∧ State.reset.expR = 0x00 ∧ (∀ i, State.reset.fbByte i = 0x00) ∧ State.reset.fbLen = 0 ∧
    State.reset.firstB = 0x00 ∧ State.reset.rxCount = 0 ∧ State.reset.discCount = 0 ∧ State.reset.resKind = .none ∧
    State.reset.resReason = .none ∧ State.reset.resPayload = 0x000000 ∧ (∀ i, State.reset.txByte i = 0x00) ∧
    State.reset.misuse = false ∧ State.reset.misuseCause = .none) ∧
  (State.reset.statusWord = 0x00000000 ∧ State.reset.payloadWord = 0 ∧ State.reset.rxCountWord = 0 ∧
    State.reset.discCountWord = 0) ∧
  ∀ s : State, exec .reset s =
    .next { State.reset with rxq := s.rxq, txs := s.txs, cfg := s.cfg, inputs := s.inputs, draws := s.draws }

/-! ## The reserved rows and the wire rows -/

/-- A host word whose byte 0 is reserved is one byte long, whatever follows it, and its whole effect, in every state, busy or
not, is the misuse record with RESERVED_OP (R172). -/
def Obligations.ReservedWordRecordsMisuse : Prop :=
  ∀ op : Byte, op ≠ 0x01 → op ≠ 0x02 → op ≠ 0x03 → op ≠ 0x04 → op ≠ 0x0F →
    ∃ i : Instr, (∀ t : List Byte, decode .host (op :: t) = .ok (i, t)) ∧
      ∀ s : State, exec i s =
        .next { s with misuse := true, misuseCause := if s.misuse = true then s.misuseCause else .reservedOp }

/-- A step at a reserved op byte uses up that one byte and is refused with RESERVED_OP, busy or not (R172): only the misuse
record changes. That the bytes after it are the very next turn is the model's choice (DESIGN CHOICE, log entry 13). -/
def Obligations.ReservedOpIsRefused : Prop :=
  ∀ (s : State) (op : Byte) (t : List Byte) (more : List Input),
    op ≠ 0x01 → op ≠ 0x02 → op ≠ 0x03 → op ≠ 0x04 → op ≠ 0x0F → s.inputs = .word .host (op :: t) :: more →
    step s = .next { s with
      inputs := if t = [] then more else .word .host t :: more
      misuse := true
      misuseCause := if s.misuse = true then s.misuseCause else .reservedOp }

/-- Each of the ten reserved rows has the misuse record as its whole effect, in every state (R172). -/
def Obligations.ReservedRowsRecordMisuse : Prop :=
  ∀ (s t : State),
    t = { s with misuse := true, misuseCause := if s.misuse = true then s.misuseCause else .reservedOp } →
    exec .reserved00 s = .next t ∧ exec .reserved05 s = .next t ∧ (∀ l, exec (.reserved06 l) s = .next t) ∧
    (∀ l, exec (.reserved08 l) s = .next t) ∧ (∀ l, exec (.reserved0C l) s = .next t) ∧ exec .reserved0E s = .next t ∧
    (∀ l, exec (.reserved10 l) s = .next t) ∧ (∀ l, exec (.reserved20 l) s = .next t) ∧
    (∀ l, exec (.reserved40 l) s = .next t) ∧ (∀ l, exec (.reserved80 l) s = .next t)

/-- The outbound frame rows (the model's reading of the table's R100, log entry 3): in IDLE each puts its own frame, with
the code R74 gives its command, into `tx_buf` and onto `txs`, and changes nothing else. -/
def Obligations.OutFrameRowsSend : Prop :=
  ∀ (p0 p1 : Byte) (s : State), s.sc = .idle → ∀ sent : Byte → State,
    (∀ cmd, sent cmd = { s with
      txBuf := #v[0xB1, 0xB2, cmd, p0, p1, 0xB6], txs := s.txs ++ [0xB1, 0xB2, cmd, p0, p1, 0xB6] }) →
    (∀ cmd, exec (.outFrame cmd p0 p1) s = .next (sent cmd)) ∧
    exec (.outOutputEnable p0 p1) s = .next (sent 0x01) ∧
    exec (.outSetCurrent p0 p1) s = .next (sent 0x02) ∧
    exec (.outSetVoltageCutoff p0 p1) s = .next (sent 0x03) ∧
    exec (.outSetTimer p0 p1) s = .next (sent 0x04) ∧
    exec (.outReset p0 p1) s = .next (sent 0x05) ∧
    exec (.outSetMode p0 p1) s = .next (sent 0x06) ∧
    exec (.outOnOff p0 p1) s = .next (sent 0x10) ∧
    exec (.outVoltage p0 p1) s = .next (sent 0x11) ∧
    exec (.outCurrent p0 p1) s = .next (sent 0x12) ∧
    exec (.outElapsedTime p0 p1) s = .next (sent 0x13) ∧
    exec (.outCapacityAh p0 p1) s = .next (sent 0x14) ∧
    exec (.outCapacityWh p0 p1) s = .next (sent 0x15) ∧
    exec (.outTemperature p0 p1) s = .next (sent 0x16) ∧
    exec (.outCurrentLimit p0 p1) s = .next (sent 0x17) ∧
    exec (.outVoltageLimit p0 p1) s = .next (sent 0x18) ∧
    exec (.outTimer p0 p1) s = .next (sent 0x19)

/-- No outbound frame leaves while a transaction is in progress: an instruction of the outbound wire is then refused with
BUSY, and nothing else changes (R59, R100; the rows are the model's reading, log entry 3). -/
def Obligations.BusyOutFrameRowsRefused : Prop :=
  ∀ (i : Instr) (s : State), i.port = .lineOut → s.sc ≠ .idle →
    exec i s = .next { s with misuse := true, misuseCause := if s.misuse = true then s.misuseCause else .busy }

/-- The inbound rows (the model's reading, log entry 4): in every state the word's bytes join the tail of `rxq` in order,
and nothing else changes. -/
def Obligations.InFrameRowsArrive : Prop :=
  ∀ (p0 p1 p2 : Byte) (s : State), ∀ got : List Byte → State,
    (∀ bs, got bs = { s with rxq := s.rxq ++ bs }) →
    (∀ echo, exec (.inFrame echo p0 p1 p2) s = .next (got [0xCA, 0xCB, echo, p0, p1, p2, 0xCE, 0xCF])) ∧
    exec (.inOnOff p0 p1 p2) s = .next (got [0xCA, 0xCB, 0x10, p0, p1, p2, 0xCE, 0xCF]) ∧
    exec (.inVoltage p0 p1 p2) s = .next (got [0xCA, 0xCB, 0x11, p0, p1, p2, 0xCE, 0xCF]) ∧
    exec (.inCurrent p0 p1 p2) s = .next (got [0xCA, 0xCB, 0x12, p0, p1, p2, 0xCE, 0xCF]) ∧
    exec (.inElapsedTime p0 p1 p2) s = .next (got [0xCA, 0xCB, 0x13, p0, p1, p2, 0xCE, 0xCF]) ∧
    exec (.inCapacityAh p0 p1 p2) s = .next (got [0xCA, 0xCB, 0x14, p0, p1, p2, 0xCE, 0xCF]) ∧
    exec (.inCapacityWh p0 p1 p2) s = .next (got [0xCA, 0xCB, 0x15, p0, p1, p2, 0xCE, 0xCF]) ∧
    exec (.inTemperature p0 p1 p2) s = .next (got [0xCA, 0xCB, 0x16, p0, p1, p2, 0xCE, 0xCF]) ∧
    exec (.inCurrentLimit p0 p1 p2) s = .next (got [0xCA, 0xCB, 0x17, p0, p1, p2, 0xCE, 0xCF]) ∧
    exec (.inVoltageLimit p0 p1 p2) s = .next (got [0xCA, 0xCB, 0x18, p0, p1, p2, 0xCE, 0xCF]) ∧
    exec (.inTimer p0 p1 p2) s = .next (got [0xCA, 0xCB, 0x19, p0, p1, p2, 0xCE, 0xCF]) ∧
    exec .ack s = .next (got [0x6F])

/-! ## The receive engine, one item -/

/-- A byte in SEEK (R133, after R132): `0xCA` becomes the candidate, anything else is discarded and counted. -/
def Obligations.ByteInSeek : Prop :=
  ∀ (s u : State) (b : Byte) (q : List Byte) (more : List Input),
    s.sc = .seek → s.inputs = .receive .delivers :: more → s.rxq = b :: q →
    u = { s with
      inputs := more, rxq := q, firstB := if s.rxCount = 0 then b else s.firstB, rxCount := satAdd32 s.rxCount 1 } →
    step s = .next (
      if b = 0xCA then { u with fb := u.fb.setIfInBounds 0 0xCA, fbLen := 1, sc := .confirm }
      else { u with discCount := satAdd32 u.discCount 1 })

/-- A byte in CONFIRM (R134, after R132): `0xCB` confirms the header, `0xCA` is the new candidate, anything else drops
both bytes. -/
def Obligations.ByteInConfirm : Prop :=
  ∀ (s u : State) (b : Byte) (q : List Byte) (more : List Input),
    s.sc = .confirm → s.inputs = .receive .delivers :: more → s.rxq = b :: q →
    u = { s with
      inputs := more, rxq := q, firstB := if s.rxCount = 0 then b else s.firstB, rxCount := satAdd32 s.rxCount 1 } →
    step s = .next (
      if b = 0xCB then { u with fb := u.fb.setIfInBounds 1 0xCB, fbLen := 2, sc := .collect }
      else if b = 0xCA then { u with discCount := satAdd32 u.discCount 1 }
      else { u with discCount := satAdd32 u.discCount 2, fbLen := 0, sc := .seek })

/-- A byte in COLLECT (R135, after R132): it is stored unexamined, and the eighth ends the transaction with the outcome
of `dec`. -/
def Obligations.ByteInCollect : Prop :=
  ∀ (s u : State) (b : Byte) (q : List Byte) (more : List Input) (v : Verdict),
    s.sc = .collect → 2 ≤ s.fbLen.toNat → s.fbLen.toNat ≤ 7 →
    s.inputs = .receive .delivers :: more → s.rxq = b :: q →
    u = { s with
      inputs := more, rxq := q, firstB := if s.rxCount = 0 then b else s.firstB, rxCount := satAdd32 s.rxCount 1
      fb := s.fb.setIfInBounds s.fbLen.toNat b, fbLen := s.fbLen + 1 } →
    v = decFrame u.fb.toList s.expR →
    step s = .next (
      if s.fbLen.toNat < 7 then u
      else { u with
        sc := .idle, resKind := v.kind, resReason := v.reason
        resPayload := match v with | .ok p => p | _ => s.resPayload })

/-- A byte in HEAD (R136, after R132): the first two bytes are stored, and then kept as the header or dropped. -/
def Obligations.ByteInHead : Prop :=
  ∀ (s u : State) (b : Byte) (q : List Byte) (more : List Input),
    s.sc = .head → s.fbLen.toNat ≤ 1 → s.inputs = .receive .delivers :: more → s.rxq = b :: q →
    u = { s with
      inputs := more, rxq := q, firstB := if s.rxCount = 0 then b else s.firstB, rxCount := satAdd32 s.rxCount 1
      fb := s.fb.setIfInBounds s.fbLen.toNat b, fbLen := s.fbLen + 1 } →
    step s = .next (
      if s.fbLen = 0 then u
      else if s.fb[0] = 0xCA ∧ b = 0xCB then { u with sc := .collect }
      else { u with
        discCount := satAdd32 u.discCount 2, fbLen := 0
        sc := if s.cfg.scanOrigin = .two then .seek else .skip })

/-- A byte in SKIP (R137, after R132): it is dropped and counted, and at SCAN_ORIGIN bytes the scan begins. -/
def Obligations.ByteInSkip : Prop :=
  ∀ (s u : State) (b : Byte) (q : List Byte) (more : List Input),
    s.sc = .skip → s.cfg.scanOrigin = .eight → s.inputs = .receive .delivers :: more → s.rxq = b :: q →
    u = { s with
      inputs := more, rxq := q, firstB := if s.rxCount = 0 then b else s.firstB, rxCount := satAdd32 s.rxCount 1
      discCount := satAdd32 s.discCount 1 } →
    step s = .next (if u.rxCount = 8 then { u with sc := .seek } else u)

/-- A `Timeout` in any busy state (R138): the transaction ends NO_RESPONSE, ACK_ONLY or FRAME_MISMATCH/SHORT by what it
consumed, and everything else is kept. -/
def Obligations.TimeoutEndsTransaction : Prop :=
  ∀ (s : State) (more : List Input), s.sc ≠ .idle → s.inputs = .receive .delivers :: more → s.rxq = [] →
    step s = .next (
      if s.rxCount = 0 then { s with inputs := more, sc := .idle, resKind := .noResponse, resReason := .none }
      else if s.rxCount = 1 ∧ s.firstB = 0x6F then
        { s with inputs := more, sc := .idle, resKind := .ackOnly, resReason := .none }
      else { s with inputs := more, sc := .idle, resKind := .frameMismatch, resReason := .short })

/-- An `Error` in any busy state (R139): the transaction ends TRANSPORT_ERROR, with bytes waiting or not, and everything
else is kept. -/
def Obligations.ErrorEndsTransaction : Prop :=
  ∀ (s : State) (more : List Input), s.sc ≠ .idle → s.inputs = .receive .fails :: more →
    step s = .next { s with inputs := more, sc := .idle, resKind := .transportError, resReason := .none }

/-- Forward progress and single consumption (R142): a byte taken leaves the head of `rxq` and is counted once. -/
def Obligations.ReceiveTurnConsumesOneByte : Prop :=
  ∀ (s : State) (b : Byte) (q : List Byte), s.Inv → s.sc ≠ .idle → s.nextInput = .receive .delivers → s.rxq = b :: q →
    ∃ t, step s = .next t ∧ t.rxq = q ∧ t.rxCount.toNat = min (s.rxCount.toNat + 1) (2 ^ 32 - 1)

/-! ## Whole-machine rules -/

/-- One exchange at a time (R59): while busy, every host operation but RESET is refused, with only the misuse record
changed, and RESET is accepted. -/
def Obligations.BusyRefusesHostOperations : Prop :=
  ∀ (i : Instr) (s : State), i.port = .host → s.sc ≠ .idle →
    (i ≠ .reset → ∃ c : MisuseCause, c ≠ .none ∧
      exec i s = .next { s with misuse := true, misuseCause := if s.misuse = true then s.misuseCause else c }) ∧
    (i = .reset → ∃ t, exec i s = .next t ∧ t.sc = .idle)

/-- The priority of the misuse conditions (R207): RESERVED_OP, then BAD_LEN, then BUSY, and RESET is never refused. -/
def Obligations.MisusePriority : Prop :=
  ∀ s : State, s.sc ≠ .idle → s.misuse = false →
    (∀ i : Instr, i.row.mnemonic = "RESERVED" →
      exec i s = .next { s with misuse := true, misuseCause := .reservedOp }) ∧
    (∀ (exp n : Byte) (raw : List Byte), 8 < n.toNat →
      exec (.dec exp n raw) s = .next { s with misuse := true, misuseCause := .badLen }) ∧
    (∀ (exp n : Byte) (raw : List Byte), n.toNat ≤ 8 →
      exec (.dec exp n raw) s = .next { s with misuse := true, misuseCause := .busy }) ∧
    (∀ cmd p0 p1 : Byte, exec (.enc cmd p0 p1) s = .next { s with misuse := true, misuseCause := .busy } ∧
      exec (.xfer cmd p0 p1) s = .next { s with misuse := true, misuseCause := .busy } ∧
      exec (.recv cmd) s = .next { s with misuse := true, misuseCause := .busy }) ∧
    ∃ t, exec .reset s = .next t ∧ t.misuse = false

/-- `misuse` is sticky and keeps the first cause (R208): only a RESET word clears it, and an instruction does the same to
everything else whether or not a misuse is recorded. -/
def Obligations.MisuseIsSticky : Prop :=
  (∀ s t : State, s.misuse = true → step s = .next t →
    (t.misuse = true ∧ t.misuseCause = s.misuseCause) ∨
    ∃ p bytes rest, s.nextInput = .word p bytes ∧ decode p bytes = .ok (.reset, rest)) ∧
  (∀ (i : Instr) (s t : State) (m : Bool) (c : MisuseCause), exec i s = .next t →
    ∃ m' c', exec i { s with misuse := m, misuseCause := c } = .next { t with misuse := m', misuseCause := c' })

/-- `res_payload` changes only with an outcome OK or a RESET (R31, R201). -/
def Obligations.OnlyOkChangesPayload : Prop :=
  ∀ s t : State, step s = .next t → t.resPayload ≠ s.resPayload →
    t.resKind = .ok ∨ ∃ p bytes rest, s.nextInput = .word p bytes ∧ decode p bytes = .ok (.reset, rest)

/-- A transaction ends exactly with the eighth frame byte, a `Timeout`, an `Error` (R146), or RESET (R210). -/
def Obligations.TransactionEndsOnlyAsRuled : Prop :=
  ∀ s t : State, s.sc ≠ .idle → step s = .next t →
    (t.sc = .idle ↔
      s.nextInput = .receive .fails ∨
      (s.nextInput = .receive .delivers ∧ (s.rxq = [] ∨ (s.sc = .collect ∧ s.fbLen = 7))) ∨
      ∃ p bytes rest, s.nextInput = .word p bytes ∧ decode p bytes = .ok (.reset, rest))

/-- The streams change only as ruled (R39, R57): `txs` only grows, in IDLE, by one whole frame, under a turn that presents
an ENC or XFER host word with the frame's command and payload, or the frame itself on the outbound wire (the model's
reading of the OUT_ rows, log entry 3). `rxq` only grows at its tail, by an arrival or by the bytes of an inbound row's
word in one turn (the model's choice, log entry 4), and loses its head to the receive engine, or a prefix to the flush
(the model's choice, log entry 10). -/
def Obligations.StreamsChangeOnlyAsRuled : Prop :=
  ∀ s t : State, step s = .next t →
    (t.txs = s.txs ∨
      ∃ cmd p0 p1 : Byte, s.sc = .idle ∧ t.txs = s.txs ++ [0xB1, 0xB2, cmd, p0, p1, 0xB6] ∧
        t.txBuf.toList = [0xB1, 0xB2, cmd, p0, p1, 0xB6] ∧
        ((∃ rest, s.nextInput = .word .host (0x01 :: cmd :: p0 :: p1 :: rest)) ∨
          (∃ rest, s.nextInput = .word .host (0x04 :: cmd :: p0 :: p1 :: rest)) ∨
          s.nextInput = .word .lineOut [0xB1, 0xB2, cmd, p0, p1, 0xB6])) ∧
    (t.rxq = s.rxq ∨
      (∃ b, s.nextInput = .arrive b ∧ t.rxq = s.rxq ++ [b]) ∨
      (∃ bytes i, s.nextInput = .word .lineIn bytes ∧ decode .lineIn bytes = .ok (i, []) ∧ t.rxq = s.rxq ++ bytes) ∨
      (s.sc ≠ .idle ∧ s.nextInput = .receive .delivers ∧ t.rxq = s.rxq.tail) ∨
      ∃ n, s.nextInput = .flush n ∧ t.rxq = s.rxq.drop n)

/-- No step changes SCAN_ORIGIN (R20: a parameter of the step relation; held in State by the model's choice, log
entry 6). -/
def Obligations.ParameterNeverChanges : Prop :=
  ∀ (n : Nat) (s t : State), run n s = .next t → t.cfg = s.cfg

/-! ## Invariants -/

/-- Every step keeps the invariant: `fb_len` by state (R25), the held header (R134, R135), the states a parameter value
admits (R21), the counters (R145), the reason (R30), NONE while busy (R29) and the misuse record (R34). -/
def Obligations.StepKeepsInvariant : Prop :=
  ∀ s t : State, s.Inv → step s = .next t → t.Inv

/-- The reset state has the invariant, for every value of the parameter and every content of the streams (R230). -/
def Obligations.ResetHasInvariant : Prop :=
  ∀ (c : Config) (rxq txs : List Byte) (inputs : List Input) (draws : Nat),
    ({ State.reset with cfg := c, rxq := rxq, txs := txs, inputs := inputs, draws := draws } : State).Inv

/-- No state of the invariant faults (R25, R50: no rule forms an index outside the buffers). -/
def Obligations.InvariantExcludesFaults : Prop :=
  ∀ (s : State) (r : Fault), s.Inv → step s ≠ .fault r

/-- The counter invariant over every run (R145): while no counter has saturated, `rx_count = disc_count + fb_len` after
every step, whatever the host and the environment do. -/
def Obligations.CountersBalanceInEveryRun : Prop :=
  ∀ (n : Nat) (c : Config) (rxq : List Byte) (inputs : List Input) (t : State),
    run n { State.reset with cfg := c, rxq := rxq, inputs := inputs } = .next t →
    t.rxCount.toNat < 2 ^ 32 - 1 → t.discCount.toNat < 2 ^ 32 - 1 →
    t.rxCount.toNat = t.discCount.toNat + t.fbLen.toNat

/-! ## Whole transactions -/

/-- First-match lock for SCAN_ORIGIN 0 (R143). After `m` bytes without an adjacent pair the engine is in CONFIRM exactly
when the last was `0xCA`, with `m` or `m - 1` bytes discarded; the byte after which the first pair is complete enters
COLLECT with `fb[0..1] = [CA, CB]` and `disc_count = L`. -/
def Obligations.ScanLocksOnFirstPair : Prop :=
  ∀ (s : State) (S : List Byte) (m : Nat) (more : List Input),
    s.FreshReceive → s.cfg.scanOrigin = .zero → s.rxq = S → S.length < 2 ^ 32 → m ≤ S.length →
    s.inputs = receiveTurns m ++ more →
    (lockIndex (S.take m) = none →
      ∃ t, run m s = .next t ∧ t.rxq = S.drop m ∧ t.rxCount.toNat = m ∧
        (if (S.take m).getLast? = some 0xCA then t.sc = .confirm ∧ t.discCount.toNat = m - 1
          else t.sc = .seek ∧ t.discCount.toNat = m)) ∧
    (∀ L, lockIndex S = some L → m = L + 2 →
      ∃ t, run m s = .next t ∧ t.sc = .collect ∧ t.rxq = S.drop m ∧ t.fb[0] = 0xCA ∧ t.fb[1] = 0xCB ∧
        t.fbLen = 2 ∧ t.discCount.toNat = L)

/-- The outcome of a transaction whose frame is complete, for every SCAN_ORIGIN (R144 part 1, R148, R149): with the lock
at index `L`, exactly `L + 8` bytes are consumed, the eight bytes from `L` are in `fb`, `L` bytes are discarded, and the
outcome is `dec` of those eight bytes: OK, FOOTER or ECHO. The bytes after the frame stay in `rxq` and no byte is taken
twice. -/
def Obligations.TransactionOutcomeAtLock : Prop :=
  ∀ (s : State) (S : List Byte) (L : Nat) (more : List Input) (v : Verdict),
    s.FreshReceive → s.rxq = S → S.length < 2 ^ 32 →
    lockIndexFrom (originValue s.cfg.scanOrigin) S = some L → L + 8 ≤ S.length →
    s.inputs = receiveTurns (L + 8) ++ more →
    v = decFrame ((S.drop L).take 8) s.expR →
    (v = .footer ∨ v = .echo ∨ ∃ p, v = .ok p) ∧
    ∃ fb : Vector Byte 8, fb.toList = (S.drop L).take 8 ∧
      run (L + 8) s = .next { s with
        sc := .idle, fb := fb, fbLen := 8, firstB := S.headD 0, rxCount := BitVec.ofNat 32 (L + 8)
        discCount := BitVec.ofNat 32 L, resKind := v.kind, resReason := v.reason
        resPayload := match v with | .ok p => p | _ => s.resPayload
        rxq := S.drop (L + 8), inputs := more }

/-- The outcome of a transaction that times out, for every SCAN_ORIGIN (R144 part 3, R149): without a complete frame in
the bytes `S` that arrive, all of `S` is consumed and the `Timeout` gives NO_RESPONSE for no byte, ACK_ONLY for a lone
`0x6F` and FRAME_MISMATCH/SHORT else; `res_payload` is kept. -/
def Obligations.TransactionOutcomeAtTimeout : Prop :=
  ∀ (s : State) (S : List Byte) (more : List Input),
    s.FreshReceive → s.rxq = S → S.length < 2 ^ 32 →
    (∀ L, lockIndexFrom (originValue s.cfg.scanOrigin) S = some L → S.length < L + 8) →
    s.inputs = receiveTurns (S.length + 1) ++ more →
    ∃ t, run (S.length + 1) s = .next t ∧ t.sc = .idle ∧ t.rxq = [] ∧ t.inputs = more ∧
      t.rxCount.toNat = S.length ∧ t.resPayload = s.resPayload ∧
      (t.resKind, t.resReason) =
        if S = [] then (.noResponse, .none) else if S = [0x6F] then (.ackOnly, .none) else (.frameMismatch, .short)

/-- Every transaction ends when the bytes stop (R131, R146): as many engine turns as bytes wait, and one more, are
enough. -/
def Obligations.ReceiveTurnsEndTransaction : Prop :=
  ∀ (s : State) (more : List Input), s.Inv → s.sc ≠ .idle → s.inputs = receiveTurns (s.rxq.length + 1) ++ more →
    ∃ k t, k ≤ s.rxq.length + 1 ∧ run k s = .next t ∧ t.sc = .idle

/-- An arrival and the engine's turn may come in either order while a byte waits (R58, R62, R131): both orders end in the
same state, so bytes that arrive late are scanned as if they had waited. -/
def Obligations.ArrivalAndReceiveCommute : Prop :=
  ∀ (s : State) (b : Byte) (tr : Transport) (more : List Input), s.rxq ≠ [] →
    run 2 { s with inputs := .receive tr :: .arrive b :: more } = run 2 { s with inputs := .arrive b :: .receive tr :: more }

/-- The fast path agrees with DEC (R148, R110), for every SCAN_ORIGIN: eight waiting bytes that start with the header,
received by RECV, give the kind, the reason and the payload that DEC gives for the same bytes. -/
def Obligations.FastPathAgreesWithDec : Prop :=
  ∀ (s : State) (exp : Byte) (S q : List Byte) (more : List Input),
    s.sc = .idle → S.length = 8 → S.take 2 = [0xCA, 0xCB] → s.rxq = S ++ q →
    s.inputs = .word .host [0x03, exp] :: (receiveTurns 8 ++ more) →
    ∃ t d, run 9 s = .next t ∧ exec (.dec exp 8 S) s = .next d ∧ t.sc = .idle ∧ t.rxq = q ∧
      t.resKind = d.resKind ∧ t.resReason = d.resReason ∧ t.resPayload = d.resPayload

/-- Bytes without meaning never matter (R237; 93 I20 to I22): two states that differ only in `fb` beyond `fb_len`, in
`first_b` of a transaction that consumed nothing and in `res_payload` under a kind other than OK step alike. -/
def Obligations.MeaninglessBytesNeverMatter : Prop :=
  ∀ s t s' : State, s.Inv → s.Agree t → step s = .next s' → ∃ t', step t = .next t' ∧ s'.Agree t'

/-! ## The views -/

/-- The STATUS word (R35): each field at its bits, and zeros above, with the numeric codes of the fields (R21, R29, R30,
R34). -/
def Obligations.StatusWordFields : Prop :=
  (∀ s : State,
    s.statusWord.extractLsb' 0 3 = s.resKind.code ∧
    s.statusWord.extractLsb' 3 3 = s.resReason.code ∧
    s.statusWord.extractLsb' 6 1 = (if s.sc = .idle then 0 else 1) ∧
    s.statusWord.extractLsb' 7 1 = (if s.misuse = true then 1 else 0) ∧
    s.statusWord.extractLsb' 8 2 = s.misuseCause.code ∧
    s.statusWord.extractLsb' 10 4 = s.fbLen ∧
    s.statusWord.extractLsb' 14 3 = s.sc.code ∧
    s.statusWord.extractLsb' 17 15 = 0) ∧
  (ScState.idle.code = 0 ∧ ScState.seek.code = 1 ∧ ScState.confirm.code = 2 ∧ ScState.collect.code = 3 ∧
    ScState.head.code = 4 ∧ ScState.skip.code = 5) ∧
  (ResKind.none.code = 0 ∧ ResKind.ok.code = 1 ∧ ResKind.noResponse.code = 2 ∧ ResKind.ackOnly.code = 3 ∧
    ResKind.frameMismatch.code = 4 ∧ ResKind.transportError.code = 5) ∧
  (ResReason.none.code = 0 ∧ ResReason.short.code = 1 ∧ ResReason.header.code = 2 ∧ ResReason.footer.code = 3 ∧
    ResReason.echo.code = 4) ∧
  (MisuseCause.none.code = 0 ∧ MisuseCause.busy.code = 1 ∧ MisuseCause.reservedOp.code = 2 ∧
    MisuseCause.badLen.code = 3) ∧
  State.reset.statusWord = 0x00000000

/-- The other views (R36): PAYLOAD holds `res_payload` under eight zero bits, RXCOUNT and DISCCOUNT are the counters, and
the buffers are read byte by byte. -/
def Obligations.ViewWords : Prop :=
  ∀ s : State,
    s.payloadWord.extractLsb' 0 24 = s.resPayload ∧ s.payloadWord.extractLsb' 24 8 = 0 ∧
    s.rxCountWord = s.rxCount ∧ s.discCountWord = s.discCount ∧
    (∀ i : Fin 8, s.fbByte i = s.fb.toList.getD i.val 0) ∧ (∀ i : Fin 6, s.txByte i = s.txBuf.toList.getD i.val 0)
end

