-- ==== Sys2Proof/Laws/Operands.lean ====
section
/-! SUPPORT. What the operand computations give: the saturating count, the frames, the outcomes. -/

namespace Sys2Proof.Machine

@[simp] theorem oh0_eq : oh0 = 0xB1 := rfl
@[simp] theorem oh1_eq : oh1 = 0xB2 := rfl
@[simp] theorem ot_eq : ot = 0xB6 := rfl
@[simp] theorem ih0_eq : ih0 = 0xCA := rfl
@[simp] theorem ih1_eq : ih1 = 0xCB := rfl
@[simp] theorem it0_eq : it0 = 0xCE := rfl
@[simp] theorem it1_eq : it1 = 0xCF := rfl
@[simp] theorem ackByte_eq : ackByte = 0x6F := rfl
@[simp] theorem inLen_eq : inLen = 8 := rfl

theorem satAdd32_toNat (c : Word32) (k : Nat) : (satAdd32 c k).toNat = min (c.toNat + k) (2 ^ 32 - 1) := by
  have : min (c.toNat + k) (2 ^ 32 - 1) < 2 ^ 32 := by omega
  simp only [satAdd32, BitVec.toNat_ofNat]
  exact Nat.mod_eq_of_lt this

/-- A count that stays below the limit is the exact sum (R9). -/
theorem satAdd32_toNat_of_lt (c : Word32) (k : Nat) (h : c.toNat + k < 2 ^ 32) : (satAdd32 c k).toNat = c.toNat + k := by
  rw [satAdd32_toNat]
  omega

/-- A count below the limit was reached without saturating (R145). -/
theorem satAdd32_exact (c : Word32) (k : Nat) (h : (satAdd32 c k).toNat < 2 ^ 32 - 1) :
    (satAdd32 c k).toNat = c.toNat + k := by
  rw [satAdd32_toNat] at h ⊢
  omega

theorem satAdd32_ne_zero (c : Word32) (k : Nat) (hk : 0 < k) : satAdd32 c k ≠ 0 := by
  intro h
  have := congrArg BitVec.toNat h
  rw [satAdd32_toNat] at this
  simp at this
  omega

@[simp] theorem encFrame_toList (cmd p0 p1 : Byte) :
    (encFrame cmd p0 p1).toList = [0xB1, 0xB2, cmd, p0, p1, 0xB6] := rfl

@[simp] theorem Verdict.payloadOr_ok (p old : Payload) : (Verdict.ok p).payloadOr old = p := rfl

theorem Verdict.payloadOr_of_kind_ne (v : Verdict) (old : Payload) (h : v.kind ≠ .ok) : v.payloadOr old = old := by
  cases v <;> first | rfl | exact absurd rfl h

/-- The kind is FRAME_MISMATCH exactly when a reason is given (R30, R200). -/
theorem Verdict.reason_eq_none_iff (v : Verdict) : v.reason = .none ↔ v.kind ≠ .frameMismatch := by
  cases v <;> simp [Verdict.reason, Verdict.kind]

/-- No outcome records the kind NONE. -/
theorem Verdict.kind_ne_none (v : Verdict) : v.kind ≠ .none := by
  cases v <;> simp [Verdict.kind]

/-- The validation never reports a transport error (R110). -/
theorem decFrame_ne_transportError (raw : List Byte) (exp : Byte) : decFrame raw exp ≠ .transportError := by
  unfold decFrame
  repeat' split
  all_goals simp

/-- `fb_len` after a byte is appended in range. -/
theorem fbLen_add_one_toNat (n : BitVec 4) (h : n.toNat < 8) : (n + 1).toNat = n.toNat + 1 := by
  have : n.toNat + 1 < 16 := by omega
  simp [BitVec.toNat_add, Nat.mod_eq_of_lt this]

end Sys2Proof.Machine
end

