-- ==== Sys2Proof/Laws/State.lean ====
section
/-! SUPPORT. One lemma per field per update of State, true by rfl. -/

namespace Sys2Proof.Machine

variable (s : State)


@[simp] theorem State.refuse_sc (c : MisuseCause) : (s.refuse c).sc = s.sc := rfl
@[simp] theorem State.refuse_expR (c : MisuseCause) : (s.refuse c).expR = s.expR := rfl
@[simp] theorem State.refuse_fb (c : MisuseCause) : (s.refuse c).fb = s.fb := rfl
@[simp] theorem State.refuse_fbLen (c : MisuseCause) : (s.refuse c).fbLen = s.fbLen := rfl
@[simp] theorem State.refuse_firstB (c : MisuseCause) : (s.refuse c).firstB = s.firstB := rfl
@[simp] theorem State.refuse_rxCount (c : MisuseCause) : (s.refuse c).rxCount = s.rxCount := rfl
@[simp] theorem State.refuse_discCount (c : MisuseCause) : (s.refuse c).discCount = s.discCount := rfl
@[simp] theorem State.refuse_resKind (c : MisuseCause) : (s.refuse c).resKind = s.resKind := rfl
@[simp] theorem State.refuse_resReason (c : MisuseCause) : (s.refuse c).resReason = s.resReason := rfl
@[simp] theorem State.refuse_resPayload (c : MisuseCause) : (s.refuse c).resPayload = s.resPayload := rfl
@[simp] theorem State.refuse_txBuf (c : MisuseCause) : (s.refuse c).txBuf = s.txBuf := rfl
@[simp] theorem State.refuse_misuse (c : MisuseCause) : (s.refuse c).misuse = true := rfl
@[simp] theorem State.refuse_misuseCause (c : MisuseCause) : (s.refuse c).misuseCause = if s.misuse = false then c else s.misuseCause := rfl
@[simp] theorem State.refuse_rxq (c : MisuseCause) : (s.refuse c).rxq = s.rxq := rfl
@[simp] theorem State.refuse_txs (c : MisuseCause) : (s.refuse c).txs = s.txs := rfl
@[simp] theorem State.refuse_cfg (c : MisuseCause) : (s.refuse c).cfg = s.cfg := rfl
@[simp] theorem State.refuse_inputs (c : MisuseCause) : (s.refuse c).inputs = s.inputs := rfl
@[simp] theorem State.refuse_draws (c : MisuseCause) : (s.refuse c).draws = s.draws := rfl

@[simp] theorem State.record_sc (v : Verdict) : (s.record v).sc = s.sc := rfl
@[simp] theorem State.record_expR (v : Verdict) : (s.record v).expR = s.expR := rfl
@[simp] theorem State.record_fb (v : Verdict) : (s.record v).fb = s.fb := rfl
@[simp] theorem State.record_fbLen (v : Verdict) : (s.record v).fbLen = s.fbLen := rfl
@[simp] theorem State.record_firstB (v : Verdict) : (s.record v).firstB = s.firstB := rfl
@[simp] theorem State.record_rxCount (v : Verdict) : (s.record v).rxCount = s.rxCount := rfl
@[simp] theorem State.record_discCount (v : Verdict) : (s.record v).discCount = s.discCount := rfl
@[simp] theorem State.record_resKind (v : Verdict) : (s.record v).resKind = v.kind := rfl
@[simp] theorem State.record_resReason (v : Verdict) : (s.record v).resReason = v.reason := rfl
@[simp] theorem State.record_resPayload (v : Verdict) : (s.record v).resPayload = v.payloadOr s.resPayload := rfl
@[simp] theorem State.record_txBuf (v : Verdict) : (s.record v).txBuf = s.txBuf := rfl
@[simp] theorem State.record_misuse (v : Verdict) : (s.record v).misuse = s.misuse := rfl
@[simp] theorem State.record_misuseCause (v : Verdict) : (s.record v).misuseCause = s.misuseCause := rfl
@[simp] theorem State.record_rxq (v : Verdict) : (s.record v).rxq = s.rxq := rfl
@[simp] theorem State.record_txs (v : Verdict) : (s.record v).txs = s.txs := rfl
@[simp] theorem State.record_cfg (v : Verdict) : (s.record v).cfg = s.cfg := rfl
@[simp] theorem State.record_inputs (v : Verdict) : (s.record v).inputs = s.inputs := rfl
@[simp] theorem State.record_draws (v : Verdict) : (s.record v).draws = s.draws := rfl

@[simp] theorem State.finish_sc (v : Verdict) : (s.finish v).sc = .idle := rfl
@[simp] theorem State.finish_expR (v : Verdict) : (s.finish v).expR = s.expR := rfl
@[simp] theorem State.finish_fb (v : Verdict) : (s.finish v).fb = s.fb := rfl
@[simp] theorem State.finish_fbLen (v : Verdict) : (s.finish v).fbLen = s.fbLen := rfl
@[simp] theorem State.finish_firstB (v : Verdict) : (s.finish v).firstB = s.firstB := rfl
@[simp] theorem State.finish_rxCount (v : Verdict) : (s.finish v).rxCount = s.rxCount := rfl
@[simp] theorem State.finish_discCount (v : Verdict) : (s.finish v).discCount = s.discCount := rfl
@[simp] theorem State.finish_resKind (v : Verdict) : (s.finish v).resKind = v.kind := rfl
@[simp] theorem State.finish_resReason (v : Verdict) : (s.finish v).resReason = v.reason := rfl
@[simp] theorem State.finish_resPayload (v : Verdict) : (s.finish v).resPayload = v.payloadOr s.resPayload := rfl
@[simp] theorem State.finish_txBuf (v : Verdict) : (s.finish v).txBuf = s.txBuf := rfl
@[simp] theorem State.finish_misuse (v : Verdict) : (s.finish v).misuse = s.misuse := rfl
@[simp] theorem State.finish_misuseCause (v : Verdict) : (s.finish v).misuseCause = s.misuseCause := rfl
@[simp] theorem State.finish_rxq (v : Verdict) : (s.finish v).rxq = s.rxq := rfl
@[simp] theorem State.finish_txs (v : Verdict) : (s.finish v).txs = s.txs := rfl
@[simp] theorem State.finish_cfg (v : Verdict) : (s.finish v).cfg = s.cfg := rfl
@[simp] theorem State.finish_inputs (v : Verdict) : (s.finish v).inputs = s.inputs := rfl
@[simp] theorem State.finish_draws (v : Verdict) : (s.finish v).draws = s.draws := rfl

@[simp] theorem State.startReceive_sc (e : Byte) : (s.startReceive e).sc = startState s.cfg.scanOrigin := rfl
@[simp] theorem State.startReceive_expR (e : Byte) : (s.startReceive e).expR = e := rfl
@[simp] theorem State.startReceive_fb (e : Byte) : (s.startReceive e).fb = s.fb := rfl
@[simp] theorem State.startReceive_fbLen (e : Byte) : (s.startReceive e).fbLen = 0 := rfl
@[simp] theorem State.startReceive_firstB (e : Byte) : (s.startReceive e).firstB = s.firstB := rfl
@[simp] theorem State.startReceive_rxCount (e : Byte) : (s.startReceive e).rxCount = 0 := rfl
@[simp] theorem State.startReceive_discCount (e : Byte) : (s.startReceive e).discCount = 0 := rfl
@[simp] theorem State.startReceive_resKind (e : Byte) : (s.startReceive e).resKind = .none := rfl
@[simp] theorem State.startReceive_resReason (e : Byte) : (s.startReceive e).resReason = .none := rfl
@[simp] theorem State.startReceive_resPayload (e : Byte) : (s.startReceive e).resPayload = s.resPayload := rfl
@[simp] theorem State.startReceive_txBuf (e : Byte) : (s.startReceive e).txBuf = s.txBuf := rfl
@[simp] theorem State.startReceive_misuse (e : Byte) : (s.startReceive e).misuse = s.misuse := rfl
@[simp] theorem State.startReceive_misuseCause (e : Byte) : (s.startReceive e).misuseCause = s.misuseCause := rfl
@[simp] theorem State.startReceive_rxq (e : Byte) : (s.startReceive e).rxq = s.rxq := rfl
@[simp] theorem State.startReceive_txs (e : Byte) : (s.startReceive e).txs = s.txs := rfl
@[simp] theorem State.startReceive_cfg (e : Byte) : (s.startReceive e).cfg = s.cfg := rfl
@[simp] theorem State.startReceive_inputs (e : Byte) : (s.startReceive e).inputs = s.inputs := rfl
@[simp] theorem State.startReceive_draws (e : Byte) : (s.startReceive e).draws = s.draws := rfl

@[simp] theorem State.sendFrame_sc (cmd p0 p1 : Byte) : (s.sendFrame cmd p0 p1).sc = s.sc := rfl
@[simp] theorem State.sendFrame_expR (cmd p0 p1 : Byte) : (s.sendFrame cmd p0 p1).expR = s.expR := rfl
@[simp] theorem State.sendFrame_fb (cmd p0 p1 : Byte) : (s.sendFrame cmd p0 p1).fb = s.fb := rfl
@[simp] theorem State.sendFrame_fbLen (cmd p0 p1 : Byte) : (s.sendFrame cmd p0 p1).fbLen = s.fbLen := rfl
@[simp] theorem State.sendFrame_firstB (cmd p0 p1 : Byte) : (s.sendFrame cmd p0 p1).firstB = s.firstB := rfl
@[simp] theorem State.sendFrame_rxCount (cmd p0 p1 : Byte) : (s.sendFrame cmd p0 p1).rxCount = s.rxCount := rfl
@[simp] theorem State.sendFrame_discCount (cmd p0 p1 : Byte) : (s.sendFrame cmd p0 p1).discCount = s.discCount := rfl
@[simp] theorem State.sendFrame_resKind (cmd p0 p1 : Byte) : (s.sendFrame cmd p0 p1).resKind = s.resKind := rfl
@[simp] theorem State.sendFrame_resReason (cmd p0 p1 : Byte) : (s.sendFrame cmd p0 p1).resReason = s.resReason := rfl
@[simp] theorem State.sendFrame_resPayload (cmd p0 p1 : Byte) : (s.sendFrame cmd p0 p1).resPayload = s.resPayload := rfl
@[simp] theorem State.sendFrame_txBuf (cmd p0 p1 : Byte) : (s.sendFrame cmd p0 p1).txBuf = encFrame cmd p0 p1 := rfl
@[simp] theorem State.sendFrame_misuse (cmd p0 p1 : Byte) : (s.sendFrame cmd p0 p1).misuse = s.misuse := rfl
@[simp] theorem State.sendFrame_misuseCause (cmd p0 p1 : Byte) : (s.sendFrame cmd p0 p1).misuseCause = s.misuseCause := rfl
@[simp] theorem State.sendFrame_rxq (cmd p0 p1 : Byte) : (s.sendFrame cmd p0 p1).rxq = s.rxq := rfl
@[simp] theorem State.sendFrame_txs (cmd p0 p1 : Byte) : (s.sendFrame cmd p0 p1).txs = s.txs ++ (encFrame cmd p0 p1).toList := rfl
@[simp] theorem State.sendFrame_cfg (cmd p0 p1 : Byte) : (s.sendFrame cmd p0 p1).cfg = s.cfg := rfl
@[simp] theorem State.sendFrame_inputs (cmd p0 p1 : Byte) : (s.sendFrame cmd p0 p1).inputs = s.inputs := rfl
@[simp] theorem State.sendFrame_draws (cmd p0 p1 : Byte) : (s.sendFrame cmd p0 p1).draws = s.draws := rfl

@[simp] theorem State.resetRegs_sc : s.resetRegs.sc = .idle := rfl
@[simp] theorem State.resetRegs_expR : s.resetRegs.expR = 0x00 := rfl
@[simp] theorem State.resetRegs_fb : s.resetRegs.fb = #v[0x00, 0x00, 0x00, 0x00, 0x00, 0x00, 0x00, 0x00] := rfl
@[simp] theorem State.resetRegs_fbLen : s.resetRegs.fbLen = 0 := rfl
@[simp] theorem State.resetRegs_firstB : s.resetRegs.firstB = 0x00 := rfl
@[simp] theorem State.resetRegs_rxCount : s.resetRegs.rxCount = 0 := rfl
@[simp] theorem State.resetRegs_discCount : s.resetRegs.discCount = 0 := rfl
@[simp] theorem State.resetRegs_resKind : s.resetRegs.resKind = .none := rfl
@[simp] theorem State.resetRegs_resReason : s.resetRegs.resReason = .none := rfl
@[simp] theorem State.resetRegs_resPayload : s.resetRegs.resPayload = 0x000000 := rfl
@[simp] theorem State.resetRegs_txBuf : s.resetRegs.txBuf = #v[0x00, 0x00, 0x00, 0x00, 0x00, 0x00] := rfl
@[simp] theorem State.resetRegs_misuse : s.resetRegs.misuse = false := rfl
@[simp] theorem State.resetRegs_misuseCause : s.resetRegs.misuseCause = .none := rfl
@[simp] theorem State.resetRegs_rxq : s.resetRegs.rxq = s.rxq := rfl
@[simp] theorem State.resetRegs_txs : s.resetRegs.txs = s.txs := rfl
@[simp] theorem State.resetRegs_cfg : s.resetRegs.cfg = s.cfg := rfl
@[simp] theorem State.resetRegs_inputs : s.resetRegs.inputs = s.inputs := rfl
@[simp] theorem State.resetRegs_draws : s.resetRegs.draws = s.draws := rfl

@[simp] theorem State.arriveAll_sc (bs : List Byte) : (s.arriveAll bs).sc = s.sc := rfl
@[simp] theorem State.arriveAll_expR (bs : List Byte) : (s.arriveAll bs).expR = s.expR := rfl
@[simp] theorem State.arriveAll_fb (bs : List Byte) : (s.arriveAll bs).fb = s.fb := rfl
@[simp] theorem State.arriveAll_fbLen (bs : List Byte) : (s.arriveAll bs).fbLen = s.fbLen := rfl
@[simp] theorem State.arriveAll_firstB (bs : List Byte) : (s.arriveAll bs).firstB = s.firstB := rfl
@[simp] theorem State.arriveAll_rxCount (bs : List Byte) : (s.arriveAll bs).rxCount = s.rxCount := rfl
@[simp] theorem State.arriveAll_discCount (bs : List Byte) : (s.arriveAll bs).discCount = s.discCount := rfl
@[simp] theorem State.arriveAll_resKind (bs : List Byte) : (s.arriveAll bs).resKind = s.resKind := rfl
@[simp] theorem State.arriveAll_resReason (bs : List Byte) : (s.arriveAll bs).resReason = s.resReason := rfl
@[simp] theorem State.arriveAll_resPayload (bs : List Byte) : (s.arriveAll bs).resPayload = s.resPayload := rfl
@[simp] theorem State.arriveAll_txBuf (bs : List Byte) : (s.arriveAll bs).txBuf = s.txBuf := rfl
@[simp] theorem State.arriveAll_misuse (bs : List Byte) : (s.arriveAll bs).misuse = s.misuse := rfl
@[simp] theorem State.arriveAll_misuseCause (bs : List Byte) : (s.arriveAll bs).misuseCause = s.misuseCause := rfl
@[simp] theorem State.arriveAll_rxq (bs : List Byte) : (s.arriveAll bs).rxq = s.rxq ++ bs := rfl
@[simp] theorem State.arriveAll_txs (bs : List Byte) : (s.arriveAll bs).txs = s.txs := rfl
@[simp] theorem State.arriveAll_cfg (bs : List Byte) : (s.arriveAll bs).cfg = s.cfg := rfl
@[simp] theorem State.arriveAll_inputs (bs : List Byte) : (s.arriveAll bs).inputs = s.inputs := rfl
@[simp] theorem State.arriveAll_draws (bs : List Byte) : (s.arriveAll bs).draws = s.draws := rfl

@[simp] theorem State.flush_sc (n : Nat) : (s.flush n).sc = s.sc := rfl
@[simp] theorem State.flush_expR (n : Nat) : (s.flush n).expR = s.expR := rfl
@[simp] theorem State.flush_fb (n : Nat) : (s.flush n).fb = s.fb := rfl
@[simp] theorem State.flush_fbLen (n : Nat) : (s.flush n).fbLen = s.fbLen := rfl
@[simp] theorem State.flush_firstB (n : Nat) : (s.flush n).firstB = s.firstB := rfl
@[simp] theorem State.flush_rxCount (n : Nat) : (s.flush n).rxCount = s.rxCount := rfl
@[simp] theorem State.flush_discCount (n : Nat) : (s.flush n).discCount = s.discCount := rfl
@[simp] theorem State.flush_resKind (n : Nat) : (s.flush n).resKind = s.resKind := rfl
@[simp] theorem State.flush_resReason (n : Nat) : (s.flush n).resReason = s.resReason := rfl
@[simp] theorem State.flush_resPayload (n : Nat) : (s.flush n).resPayload = s.resPayload := rfl
@[simp] theorem State.flush_txBuf (n : Nat) : (s.flush n).txBuf = s.txBuf := rfl
@[simp] theorem State.flush_misuse (n : Nat) : (s.flush n).misuse = s.misuse := rfl
@[simp] theorem State.flush_misuseCause (n : Nat) : (s.flush n).misuseCause = s.misuseCause := rfl
@[simp] theorem State.flush_rxq (n : Nat) : (s.flush n).rxq = s.rxq.drop n := rfl
@[simp] theorem State.flush_txs (n : Nat) : (s.flush n).txs = s.txs := rfl
@[simp] theorem State.flush_cfg (n : Nat) : (s.flush n).cfg = s.cfg := rfl
@[simp] theorem State.flush_inputs (n : Nat) : (s.flush n).inputs = s.inputs := rfl
@[simp] theorem State.flush_draws (n : Nat) : (s.flush n).draws = s.draws := rfl

@[simp] theorem State.takeByte_sc (b : Byte) : (s.takeByte b).sc = s.sc := rfl
@[simp] theorem State.takeByte_expR (b : Byte) : (s.takeByte b).expR = s.expR := rfl
@[simp] theorem State.takeByte_fb (b : Byte) : (s.takeByte b).fb = s.fb := rfl
@[simp] theorem State.takeByte_fbLen (b : Byte) : (s.takeByte b).fbLen = s.fbLen := rfl
@[simp] theorem State.takeByte_firstB (b : Byte) : (s.takeByte b).firstB = if s.rxCount = 0 then b else s.firstB := rfl
@[simp] theorem State.takeByte_rxCount (b : Byte) : (s.takeByte b).rxCount = satAdd32 s.rxCount 1 := rfl
@[simp] theorem State.takeByte_discCount (b : Byte) : (s.takeByte b).discCount = s.discCount := rfl
@[simp] theorem State.takeByte_resKind (b : Byte) : (s.takeByte b).resKind = s.resKind := rfl
@[simp] theorem State.takeByte_resReason (b : Byte) : (s.takeByte b).resReason = s.resReason := rfl
@[simp] theorem State.takeByte_resPayload (b : Byte) : (s.takeByte b).resPayload = s.resPayload := rfl
@[simp] theorem State.takeByte_txBuf (b : Byte) : (s.takeByte b).txBuf = s.txBuf := rfl
@[simp] theorem State.takeByte_misuse (b : Byte) : (s.takeByte b).misuse = s.misuse := rfl
@[simp] theorem State.takeByte_misuseCause (b : Byte) : (s.takeByte b).misuseCause = s.misuseCause := rfl
@[simp] theorem State.takeByte_rxq (b : Byte) : (s.takeByte b).rxq = s.rxq.tail := rfl
@[simp] theorem State.takeByte_txs (b : Byte) : (s.takeByte b).txs = s.txs := rfl
@[simp] theorem State.takeByte_cfg (b : Byte) : (s.takeByte b).cfg = s.cfg := rfl
@[simp] theorem State.takeByte_inputs (b : Byte) : (s.takeByte b).inputs = s.inputs := rfl
@[simp] theorem State.takeByte_draws (b : Byte) : (s.takeByte b).draws = s.draws := rfl

@[simp] theorem State.discard_sc (k : Nat) : (s.discard k).sc = s.sc := rfl
@[simp] theorem State.discard_expR (k : Nat) : (s.discard k).expR = s.expR := rfl
@[simp] theorem State.discard_fb (k : Nat) : (s.discard k).fb = s.fb := rfl
@[simp] theorem State.discard_fbLen (k : Nat) : (s.discard k).fbLen = s.fbLen := rfl
@[simp] theorem State.discard_firstB (k : Nat) : (s.discard k).firstB = s.firstB := rfl
@[simp] theorem State.discard_rxCount (k : Nat) : (s.discard k).rxCount = s.rxCount := rfl
@[simp] theorem State.discard_discCount (k : Nat) : (s.discard k).discCount = satAdd32 s.discCount k := rfl
@[simp] theorem State.discard_resKind (k : Nat) : (s.discard k).resKind = s.resKind := rfl
@[simp] theorem State.discard_resReason (k : Nat) : (s.discard k).resReason = s.resReason := rfl
@[simp] theorem State.discard_resPayload (k : Nat) : (s.discard k).resPayload = s.resPayload := rfl
@[simp] theorem State.discard_txBuf (k : Nat) : (s.discard k).txBuf = s.txBuf := rfl
@[simp] theorem State.discard_misuse (k : Nat) : (s.discard k).misuse = s.misuse := rfl
@[simp] theorem State.discard_misuseCause (k : Nat) : (s.discard k).misuseCause = s.misuseCause := rfl
@[simp] theorem State.discard_rxq (k : Nat) : (s.discard k).rxq = s.rxq := rfl
@[simp] theorem State.discard_txs (k : Nat) : (s.discard k).txs = s.txs := rfl
@[simp] theorem State.discard_cfg (k : Nat) : (s.discard k).cfg = s.cfg := rfl
@[simp] theorem State.discard_inputs (k : Nat) : (s.discard k).inputs = s.inputs := rfl
@[simp] theorem State.discard_draws (k : Nat) : (s.discard k).draws = s.draws := rfl

@[simp] theorem State.storeByte_sc (i : Nat) (b : Byte) (n : BitVec 4) (c : ScState) : (s.storeByte i b n c).sc = c := rfl
@[simp] theorem State.storeByte_expR (i : Nat) (b : Byte) (n : BitVec 4) (c : ScState) : (s.storeByte i b n c).expR = s.expR := rfl
@[simp] theorem State.storeByte_fb (i : Nat) (b : Byte) (n : BitVec 4) (c : ScState) : (s.storeByte i b n c).fb = s.fb.setIfInBounds i b := rfl
@[simp] theorem State.storeByte_fbLen (i : Nat) (b : Byte) (n : BitVec 4) (c : ScState) : (s.storeByte i b n c).fbLen = n := rfl
@[simp] theorem State.storeByte_firstB (i : Nat) (b : Byte) (n : BitVec 4) (c : ScState) : (s.storeByte i b n c).firstB = s.firstB := rfl
@[simp] theorem State.storeByte_rxCount (i : Nat) (b : Byte) (n : BitVec 4) (c : ScState) : (s.storeByte i b n c).rxCount = s.rxCount := rfl
@[simp] theorem State.storeByte_discCount (i : Nat) (b : Byte) (n : BitVec 4) (c : ScState) : (s.storeByte i b n c).discCount = s.discCount := rfl
@[simp] theorem State.storeByte_resKind (i : Nat) (b : Byte) (n : BitVec 4) (c : ScState) : (s.storeByte i b n c).resKind = s.resKind := rfl
@[simp] theorem State.storeByte_resReason (i : Nat) (b : Byte) (n : BitVec 4) (c : ScState) : (s.storeByte i b n c).resReason = s.resReason := rfl
@[simp] theorem State.storeByte_resPayload (i : Nat) (b : Byte) (n : BitVec 4) (c : ScState) : (s.storeByte i b n c).resPayload = s.resPayload := rfl
@[simp] theorem State.storeByte_txBuf (i : Nat) (b : Byte) (n : BitVec 4) (c : ScState) : (s.storeByte i b n c).txBuf = s.txBuf := rfl
@[simp] theorem State.storeByte_misuse (i : Nat) (b : Byte) (n : BitVec 4) (c : ScState) : (s.storeByte i b n c).misuse = s.misuse := rfl
@[simp] theorem State.storeByte_misuseCause (i : Nat) (b : Byte) (n : BitVec 4) (c : ScState) : (s.storeByte i b n c).misuseCause = s.misuseCause := rfl
@[simp] theorem State.storeByte_rxq (i : Nat) (b : Byte) (n : BitVec 4) (c : ScState) : (s.storeByte i b n c).rxq = s.rxq := rfl
@[simp] theorem State.storeByte_txs (i : Nat) (b : Byte) (n : BitVec 4) (c : ScState) : (s.storeByte i b n c).txs = s.txs := rfl
@[simp] theorem State.storeByte_cfg (i : Nat) (b : Byte) (n : BitVec 4) (c : ScState) : (s.storeByte i b n c).cfg = s.cfg := rfl
@[simp] theorem State.storeByte_inputs (i : Nat) (b : Byte) (n : BitVec 4) (c : ScState) : (s.storeByte i b n c).inputs = s.inputs := rfl
@[simp] theorem State.storeByte_draws (i : Nat) (b : Byte) (n : BitVec 4) (c : ScState) : (s.storeByte i b n c).draws = s.draws := rfl

@[simp] theorem State.appendByte_sc (b : Byte) : (s.appendByte b).sc = s.sc := rfl
@[simp] theorem State.appendByte_expR (b : Byte) : (s.appendByte b).expR = s.expR := rfl
@[simp] theorem State.appendByte_fb (b : Byte) : (s.appendByte b).fb = s.fb.setIfInBounds s.fbLen.toNat b := rfl
@[simp] theorem State.appendByte_fbLen (b : Byte) : (s.appendByte b).fbLen = s.fbLen + 1 := rfl
@[simp] theorem State.appendByte_firstB (b : Byte) : (s.appendByte b).firstB = s.firstB := rfl
@[simp] theorem State.appendByte_rxCount (b : Byte) : (s.appendByte b).rxCount = s.rxCount := rfl
@[simp] theorem State.appendByte_discCount (b : Byte) : (s.appendByte b).discCount = s.discCount := rfl
@[simp] theorem State.appendByte_resKind (b : Byte) : (s.appendByte b).resKind = s.resKind := rfl
@[simp] theorem State.appendByte_resReason (b : Byte) : (s.appendByte b).resReason = s.resReason := rfl
@[simp] theorem State.appendByte_resPayload (b : Byte) : (s.appendByte b).resPayload = s.resPayload := rfl
@[simp] theorem State.appendByte_txBuf (b : Byte) : (s.appendByte b).txBuf = s.txBuf := rfl
@[simp] theorem State.appendByte_misuse (b : Byte) : (s.appendByte b).misuse = s.misuse := rfl
@[simp] theorem State.appendByte_misuseCause (b : Byte) : (s.appendByte b).misuseCause = s.misuseCause := rfl
@[simp] theorem State.appendByte_rxq (b : Byte) : (s.appendByte b).rxq = s.rxq := rfl
@[simp] theorem State.appendByte_txs (b : Byte) : (s.appendByte b).txs = s.txs := rfl
@[simp] theorem State.appendByte_cfg (b : Byte) : (s.appendByte b).cfg = s.cfg := rfl
@[simp] theorem State.appendByte_inputs (b : Byte) : (s.appendByte b).inputs = s.inputs := rfl
@[simp] theorem State.appendByte_draws (b : Byte) : (s.appendByte b).draws = s.draws := rfl

@[simp] theorem State.dropFrame_sc (c : ScState) : (s.dropFrame c).sc = c := rfl
@[simp] theorem State.dropFrame_expR (c : ScState) : (s.dropFrame c).expR = s.expR := rfl
@[simp] theorem State.dropFrame_fb (c : ScState) : (s.dropFrame c).fb = s.fb := rfl
@[simp] theorem State.dropFrame_fbLen (c : ScState) : (s.dropFrame c).fbLen = 0 := rfl
@[simp] theorem State.dropFrame_firstB (c : ScState) : (s.dropFrame c).firstB = s.firstB := rfl
@[simp] theorem State.dropFrame_rxCount (c : ScState) : (s.dropFrame c).rxCount = s.rxCount := rfl
@[simp] theorem State.dropFrame_discCount (c : ScState) : (s.dropFrame c).discCount = s.discCount := rfl
@[simp] theorem State.dropFrame_resKind (c : ScState) : (s.dropFrame c).resKind = s.resKind := rfl
@[simp] theorem State.dropFrame_resReason (c : ScState) : (s.dropFrame c).resReason = s.resReason := rfl
@[simp] theorem State.dropFrame_resPayload (c : ScState) : (s.dropFrame c).resPayload = s.resPayload := rfl
@[simp] theorem State.dropFrame_txBuf (c : ScState) : (s.dropFrame c).txBuf = s.txBuf := rfl
@[simp] theorem State.dropFrame_misuse (c : ScState) : (s.dropFrame c).misuse = s.misuse := rfl
@[simp] theorem State.dropFrame_misuseCause (c : ScState) : (s.dropFrame c).misuseCause = s.misuseCause := rfl
@[simp] theorem State.dropFrame_rxq (c : ScState) : (s.dropFrame c).rxq = s.rxq := rfl
@[simp] theorem State.dropFrame_txs (c : ScState) : (s.dropFrame c).txs = s.txs := rfl
@[simp] theorem State.dropFrame_cfg (c : ScState) : (s.dropFrame c).cfg = s.cfg := rfl
@[simp] theorem State.dropFrame_inputs (c : ScState) : (s.dropFrame c).inputs = s.inputs := rfl
@[simp] theorem State.dropFrame_draws (c : ScState) : (s.dropFrame c).draws = s.draws := rfl

@[simp] theorem State.goto_sc (c : ScState) : (s.goto c).sc = c := rfl
@[simp] theorem State.goto_expR (c : ScState) : (s.goto c).expR = s.expR := rfl
@[simp] theorem State.goto_fb (c : ScState) : (s.goto c).fb = s.fb := rfl
@[simp] theorem State.goto_fbLen (c : ScState) : (s.goto c).fbLen = s.fbLen := rfl
@[simp] theorem State.goto_firstB (c : ScState) : (s.goto c).firstB = s.firstB := rfl
@[simp] theorem State.goto_rxCount (c : ScState) : (s.goto c).rxCount = s.rxCount := rfl
@[simp] theorem State.goto_discCount (c : ScState) : (s.goto c).discCount = s.discCount := rfl
@[simp] theorem State.goto_resKind (c : ScState) : (s.goto c).resKind = s.resKind := rfl
@[simp] theorem State.goto_resReason (c : ScState) : (s.goto c).resReason = s.resReason := rfl
@[simp] theorem State.goto_resPayload (c : ScState) : (s.goto c).resPayload = s.resPayload := rfl
@[simp] theorem State.goto_txBuf (c : ScState) : (s.goto c).txBuf = s.txBuf := rfl
@[simp] theorem State.goto_misuse (c : ScState) : (s.goto c).misuse = s.misuse := rfl
@[simp] theorem State.goto_misuseCause (c : ScState) : (s.goto c).misuseCause = s.misuseCause := rfl
@[simp] theorem State.goto_rxq (c : ScState) : (s.goto c).rxq = s.rxq := rfl
@[simp] theorem State.goto_txs (c : ScState) : (s.goto c).txs = s.txs := rfl
@[simp] theorem State.goto_cfg (c : ScState) : (s.goto c).cfg = s.cfg := rfl
@[simp] theorem State.goto_inputs (c : ScState) : (s.goto c).inputs = s.inputs := rfl
@[simp] theorem State.goto_draws (c : ScState) : (s.goto c).draws = s.draws := rfl

@[simp] theorem State.pushInput_sc (i : Input) : (s.pushInput i).sc = s.sc := rfl
@[simp] theorem State.pushInput_expR (i : Input) : (s.pushInput i).expR = s.expR := rfl
@[simp] theorem State.pushInput_fb (i : Input) : (s.pushInput i).fb = s.fb := rfl
@[simp] theorem State.pushInput_fbLen (i : Input) : (s.pushInput i).fbLen = s.fbLen := rfl
@[simp] theorem State.pushInput_firstB (i : Input) : (s.pushInput i).firstB = s.firstB := rfl
@[simp] theorem State.pushInput_rxCount (i : Input) : (s.pushInput i).rxCount = s.rxCount := rfl
@[simp] theorem State.pushInput_discCount (i : Input) : (s.pushInput i).discCount = s.discCount := rfl
@[simp] theorem State.pushInput_resKind (i : Input) : (s.pushInput i).resKind = s.resKind := rfl
@[simp] theorem State.pushInput_resReason (i : Input) : (s.pushInput i).resReason = s.resReason := rfl
@[simp] theorem State.pushInput_resPayload (i : Input) : (s.pushInput i).resPayload = s.resPayload := rfl
@[simp] theorem State.pushInput_txBuf (i : Input) : (s.pushInput i).txBuf = s.txBuf := rfl
@[simp] theorem State.pushInput_misuse (i : Input) : (s.pushInput i).misuse = s.misuse := rfl
@[simp] theorem State.pushInput_misuseCause (i : Input) : (s.pushInput i).misuseCause = s.misuseCause := rfl
@[simp] theorem State.pushInput_rxq (i : Input) : (s.pushInput i).rxq = s.rxq := rfl
@[simp] theorem State.pushInput_txs (i : Input) : (s.pushInput i).txs = s.txs := rfl
@[simp] theorem State.pushInput_cfg (i : Input) : (s.pushInput i).cfg = s.cfg := rfl
@[simp] theorem State.pushInput_inputs (i : Input) : (s.pushInput i).inputs = i :: s.inputs := rfl
@[simp] theorem State.pushInput_draws (i : Input) : (s.pushInput i).draws = s.draws := rfl

@[simp] theorem State.returnRest_sc (p : Port) (r : List Byte) : (s.returnRest p r).sc = s.sc := rfl
@[simp] theorem State.returnRest_expR (p : Port) (r : List Byte) : (s.returnRest p r).expR = s.expR := rfl
@[simp] theorem State.returnRest_fb (p : Port) (r : List Byte) : (s.returnRest p r).fb = s.fb := rfl
@[simp] theorem State.returnRest_fbLen (p : Port) (r : List Byte) : (s.returnRest p r).fbLen = s.fbLen := rfl
@[simp] theorem State.returnRest_firstB (p : Port) (r : List Byte) : (s.returnRest p r).firstB = s.firstB := rfl
@[simp] theorem State.returnRest_rxCount (p : Port) (r : List Byte) : (s.returnRest p r).rxCount = s.rxCount := rfl
@[simp] theorem State.returnRest_discCount (p : Port) (r : List Byte) : (s.returnRest p r).discCount = s.discCount := rfl
@[simp] theorem State.returnRest_resKind (p : Port) (r : List Byte) : (s.returnRest p r).resKind = s.resKind := rfl
@[simp] theorem State.returnRest_resReason (p : Port) (r : List Byte) : (s.returnRest p r).resReason = s.resReason := rfl
@[simp] theorem State.returnRest_resPayload (p : Port) (r : List Byte) : (s.returnRest p r).resPayload = s.resPayload := rfl
@[simp] theorem State.returnRest_txBuf (p : Port) (r : List Byte) : (s.returnRest p r).txBuf = s.txBuf := rfl
@[simp] theorem State.returnRest_misuse (p : Port) (r : List Byte) : (s.returnRest p r).misuse = s.misuse := rfl
@[simp] theorem State.returnRest_misuseCause (p : Port) (r : List Byte) : (s.returnRest p r).misuseCause = s.misuseCause := rfl
@[simp] theorem State.returnRest_rxq (p : Port) (r : List Byte) : (s.returnRest p r).rxq = s.rxq := rfl
@[simp] theorem State.returnRest_txs (p : Port) (r : List Byte) : (s.returnRest p r).txs = s.txs := rfl
@[simp] theorem State.returnRest_cfg (p : Port) (r : List Byte) : (s.returnRest p r).cfg = s.cfg := rfl
@[simp] theorem State.returnRest_inputs (p : Port) (r : List Byte) : (s.returnRest p r).inputs = if r = [] then s.inputs else .word p r :: s.inputs := rfl
@[simp] theorem State.returnRest_draws (p : Port) (r : List Byte) : (s.returnRest p r).draws = s.draws := rfl

@[simp] theorem State.popInput_sc : s.popInput.sc = s.sc := by
  unfold State.popInput
  split <;> rfl
@[simp] theorem State.popInput_expR : s.popInput.expR = s.expR := by
  unfold State.popInput
  split <;> rfl
@[simp] theorem State.popInput_fb : s.popInput.fb = s.fb := by
  unfold State.popInput
  split <;> rfl
@[simp] theorem State.popInput_fbLen : s.popInput.fbLen = s.fbLen := by
  unfold State.popInput
  split <;> rfl
@[simp] theorem State.popInput_firstB : s.popInput.firstB = s.firstB := by
  unfold State.popInput
  split <;> rfl
@[simp] theorem State.popInput_rxCount : s.popInput.rxCount = s.rxCount := by
  unfold State.popInput
  split <;> rfl
@[simp] theorem State.popInput_discCount : s.popInput.discCount = s.discCount := by
  unfold State.popInput
  split <;> rfl
@[simp] theorem State.popInput_resKind : s.popInput.resKind = s.resKind := by
  unfold State.popInput
  split <;> rfl
@[simp] theorem State.popInput_resReason : s.popInput.resReason = s.resReason := by
  unfold State.popInput
  split <;> rfl
@[simp] theorem State.popInput_resPayload : s.popInput.resPayload = s.resPayload := by
  unfold State.popInput
  split <;> rfl
@[simp] theorem State.popInput_txBuf : s.popInput.txBuf = s.txBuf := by
  unfold State.popInput
  split <;> rfl
@[simp] theorem State.popInput_misuse : s.popInput.misuse = s.misuse := by
  unfold State.popInput
  split <;> rfl
@[simp] theorem State.popInput_misuseCause : s.popInput.misuseCause = s.misuseCause := by
  unfold State.popInput
  split <;> rfl
@[simp] theorem State.popInput_rxq : s.popInput.rxq = s.rxq := by
  unfold State.popInput
  split <;> rfl
@[simp] theorem State.popInput_txs : s.popInput.txs = s.txs := by
  unfold State.popInput
  split <;> rfl
@[simp] theorem State.popInput_cfg : s.popInput.cfg = s.cfg := by
  unfold State.popInput
  split <;> rfl

theorem State.popInput_of_cons (i : Input) (r : List Input) (h : s.inputs = i :: r) :
    s.popInput = { s with inputs := r } := by
  unfold State.popInput
  rw [h]

theorem State.popInput_of_nil (h : s.inputs = []) : s.popInput = { s with draws := s.draws + 1 } := by
  unfold State.popInput
  rw [h]

theorem State.nextInput_of_cons (i : Input) (r : List Input) (h : s.inputs = i :: r) : s.nextInput = i := by
  unfold State.nextInput
  rw [h]

theorem State.nextInput_of_nil (h : s.inputs = []) : s.nextInput = Config.freeInput s.draws := by
  unfold State.nextInput
  rw [h]

end Sys2Proof.Machine
end

