-- ==== Sys2Proof/Laws/Effects.lean ====
section
/-! SUPPORT. What each shared operation, each instruction, the receive engine and the step can do, said once. -/

namespace Sys2Proof.Machine

theorem whenIdle_of_idle (op : State → State) (s : State) (h : s.sc = .idle) : whenIdle op s = op s := by
  simp [whenIdle, h]

theorem whenIdle_of_busy (op : State → State) (s : State) (h : s.sc ≠ .idle) : whenIdle op s = s.refuse .busy := by
  simp [whenIdle, h]

/-- Every state an instruction can lead to. -/
inductive ExecEffect (i : Instr) (s : State) : State → Prop where
  | refuse (c : MisuseCause) (hc : c ≠ .none) (hi : i ≠ .reset) : ExecEffect i s (s.refuse c)
  | send (cmd p0 p1 : Byte) (h : s.sc = .idle) (hi : i ≠ .reset)
    (hw : i = .enc cmd p0 p1 ∨ (i.port = .lineOut ∧ encode i = outWord cmd p0 p1)) : ExecEffect i s (s.sendFrame cmd p0 p1)
  | record (raw : List Byte) (exp : Byte) (h : s.sc = .idle) (hi : i ≠ .reset) : ExecEffect i s (s.record (decFrame raw exp))
  | start (exp : Byte) (h : s.sc = .idle) (hi : i ≠ .reset) : ExecEffect i s (s.startReceive exp)
  | exchange (cmd p0 p1 : Byte) (h : s.sc = .idle) (hi : i = .xfer cmd p0 p1) :
    ExecEffect i s ((s.sendFrame cmd p0 p1).startReceive cmd)
  | reset (hi : i = .reset) : ExecEffect i s s.resetRegs
  | arrive (hi : i ≠ .reset) (hp : i.port = .lineIn) : ExecEffect i s (s.arriveAll (encode i))

theorem sendOnWire_effect (i : Instr) (hi : i ≠ .reset) (cmd p0 p1 : Byte) (hp : i.port = .lineOut)
    (hw : encode i = outWord cmd p0 p1) (s : State) :
    ExecEffect i s (sendOnWire cmd p0 p1 s) := by
  unfold sendOnWire whenIdle
  split
  · exact .send cmd p0 p1 ‹_› hi (.inr ⟨hp, hw⟩)
  · exact .refuse .busy (by decide) hi

/-- Every instruction answers a next state, and it is one of these. -/
theorem exec_effect (i : Instr) (s : State) : ∃ t, exec i s = .next t ∧ ExecEffect i s t := by
  cases i with
  | enc cmd p0 p1 =>
    refine ⟨_, rfl, ?_⟩
    unfold whenIdle
    split
    · exact .send cmd p0 p1 ‹_› (by simp) (.inl rfl)
    · exact .refuse .busy (by decide) (by simp)
  | dec exp n raw =>
    simp only [exec, execDec]
    split
    · exact ⟨_, rfl, .refuse .badLen (by decide) (by simp)⟩
    · refine ⟨_, rfl, ?_⟩
      unfold whenIdle
      split
      · exact .record _ exp ‹_› (by simp)
      · exact .refuse .busy (by decide) (by simp)
  | recv exp =>
    refine ⟨_, rfl, ?_⟩
    unfold whenIdle
    split
    · exact .start exp ‹_› (by simp)
    · exact .refuse .busy (by decide) (by simp)
  | xfer cmd p0 p1 =>
    refine ⟨_, rfl, ?_⟩
    unfold whenIdle
    split
    · exact .exchange cmd p0 p1 ‹_› rfl
    · exact .refuse .busy (by decide) (by simp)
  | reset => exact ⟨_, rfl, .reset rfl⟩
  | reserved00 | reserved05 | reserved06 _ | reserved08 _ | reserved0C _ | reserved0E | reserved10 _ | reserved20 _
  | reserved40 _ | reserved80 _ => exact ⟨_, rfl, .refuse .reservedOp (by decide) (by simp)⟩
  | outFrame _ _ _ => exact ⟨_, rfl, sendOnWire_effect _ (by simp) _ _ _ rfl rfl _⟩
  | outOutputEnable _ _ | outSetCurrent _ _ | outSetVoltageCutoff _ _ | outSetTimer _ _ | outReset _ _ | outSetMode _ _
  | outOnOff _ _ | outVoltage _ _ | outCurrent _ _ | outElapsedTime _ _ | outCapacityAh _ _ | outCapacityWh _ _
  | outTemperature _ _ | outCurrentLimit _ _ | outVoltageLimit _ _ | outTimer _ _ =>
    exact ⟨_, rfl, sendOnWire_effect _ (by simp) _ _ _ rfl rfl _⟩
  | inFrame _ _ _ _ => exact ⟨_, rfl, .arrive (by simp) rfl⟩
  | inOnOff _ _ _ | inVoltage _ _ _ | inCurrent _ _ _ | inElapsedTime _ _ _ | inCapacityAh _ _ _ | inCapacityWh _ _ _
  | inTemperature _ _ _ | inCurrentLimit _ _ _ | inVoltageLimit _ _ _ | inTimer _ _ _ =>
    exact ⟨_, rfl, .arrive (by simp) rfl⟩
  | ack => exact ⟨_, rfl, .arrive (by simp) rfl⟩

/-- Every state a byte already taken can lead to, by the engine state (R133 to R137). -/
inductive ByteEffect (b : Byte) (u : State) : State → Prop where
  | seekHit (h : u.sc = .seek) (hb : b = 0xCA) : ByteEffect b u (u.storeByte 0 0xCA 1 .confirm)
  | seekMiss (h : u.sc = .seek) (hb : b ≠ 0xCA) : ByteEffect b u (u.discard 1)
  | confirmHit (h : u.sc = .confirm) (hb : b = 0xCB) : ByteEffect b u (u.storeByte 1 0xCB 2 .collect)
  | confirmAgain (h : u.sc = .confirm) (hb : b = 0xCA) : ByteEffect b u (u.discard 1)
  | confirmMiss (h : u.sc = .confirm) (h1 : b ≠ 0xCB) (h2 : b ≠ 0xCA) : ByteEffect b u ((u.discard 2).dropFrame .seek)
  | collectMore (h : u.sc = .collect) (hl : u.fbLen.toNat < 7) : ByteEffect b u (u.appendByte b)
  | collectLast (h : u.sc = .collect) (hl : u.fbLen.toNat = 7) :
    ByteEffect b u ((u.appendByte b).finish (decFrame (u.appendByte b).fb.toList u.expR))
  | headMore (h : u.sc = .head) (hl : u.fbLen.toNat < 8) (h1 : u.fbLen.toNat ≠ 1) : ByteEffect b u (u.appendByte b)
  | headHit (h : u.sc = .head) (hl : u.fbLen.toNat = 1)
    (hh : (u.appendByte b).fb[0] = 0xCA ∧ (u.appendByte b).fb[1] = 0xCB) : ByteEffect b u ((u.appendByte b).goto .collect)
  | headMiss (h : u.sc = .head) (hl : u.fbLen.toNat = 1)
    (hh : ¬ ((u.appendByte b).fb[0] = 0xCA ∧ (u.appendByte b).fb[1] = 0xCB)) :
    ByteEffect b u (((u.appendByte b).discard 2).dropFrame (afterHead u.cfg.scanOrigin))
  | skipMore (h : u.sc = .skip) (hr : u.rxCount.toNat ≠ originValue u.cfg.scanOrigin) : ByteEffect b u (u.discard 1)
  | skipLast (h : u.sc = .skip) (hr : u.rxCount.toNat = originValue u.cfg.scanOrigin) :
    ByteEffect b u ((u.discard 1).goto .seek)

theorem fbLen_succ_eq_iff (n : BitVec 4) (k : Nat) (hn : n.toNat < 8) (hk : k < 9) :
    n + 1 = BitVec.ofNat 4 (k + 1) ↔ n.toNat = k := by
  rw [← BitVec.toNat_inj, fbLen_add_one_toNat n hn, BitVec.toNat_ofNat, Nat.mod_eq_of_lt (by omega)]
  omega

/-- A byte already taken leads to one of these states, or the index is out of range, or the engine is idle. -/
theorem byteRule_cases (b : Byte) (u : State) :
    (∃ t, byteRule b u = .next t ∧ ByteEffect b u t) ∨
    (byteRule b u = .fault .frameIndex ∧ (u.sc = .collect ∨ u.sc = .head) ∧ 8 ≤ u.fbLen.toNat) ∨
    (byteRule b u = .next u ∧ u.sc = .idle) := by
  cases h : u.sc with
  | idle => exact .inr (.inr ⟨by simp [byteRule, h], rfl⟩)
  | seek =>
    refine .inl ⟨seekByte b u, by simp [byteRule, h], ?_⟩
    unfold seekByte
    split
    · exact .seekHit h ‹_›
    · exact .seekMiss h ‹_›
  | confirm =>
    refine .inl ⟨confirmByte b u, by simp [byteRule, h], ?_⟩
    unfold confirmByte
    split
    · exact .confirmHit h ‹_›
    · split
      · exact .confirmAgain h ‹_›
      · exact .confirmMiss h ‹_› ‹_›
  | collect =>
    by_cases hl : u.fbLen.toNat < 8
    · refine .inl ⟨_, by simp only [byteRule, h, collectByte, hl, inLen, if_true]; rfl, ?_⟩
      have hk := fbLen_succ_eq_iff u.fbLen 7 hl (by omega)
      unfold collectDone
      split
      · exact .collectLast h (hk.1 (by simpa using ‹_›))
      · have : u.fbLen.toNat ≠ 7 := fun e => ‹¬_› (by simpa using hk.2 e)
        exact .collectMore h (by omega)
    · exact .inr (.inl ⟨by simp [byteRule, h, collectByte, hl, inLen], .inl rfl, by omega⟩)
  | head =>
    by_cases hl : u.fbLen.toNat < 8
    · refine .inl ⟨_, by simp only [byteRule, h, headByte, hl, inLen, if_true]; rfl, ?_⟩
      have hk := fbLen_succ_eq_iff u.fbLen 1 hl (by omega)
      unfold headDone
      split
      · have h1 := hk.1 (by simpa using ‹_›)
        split
        · exact .headHit h h1 ‹_›
        · exact .headMiss h h1 ‹_›
      · exact .headMore h hl fun e => ‹¬_› (by simpa using hk.2 e)
    · exact .inr (.inl ⟨by simp [byteRule, h, headByte, hl, inLen], .inr rfl, by omega⟩)
  | skip =>
    refine .inl ⟨skipByte u, by simp [byteRule, h], ?_⟩
    unfold skipByte skipDone
    split
    · exact .skipLast h ‹_›
    · exact .skipMore h ‹_›

/-- Every state a receive turn can lead to (R131). -/
inductive ReceiveEffect (tr : Transport) (s : State) : State → Prop where
  | idle (h : s.sc = .idle) : ReceiveEffect tr s s
  | error (h : s.sc ≠ .idle) (ht : tr = .fails) : ReceiveEffect tr s (s.finish .transportError)
  | timeout (h : s.sc ≠ .idle) (ht : tr = .delivers) (hq : s.rxq = []) :
    ReceiveEffect tr s (s.finish (timeoutVerdict s.rxCount s.firstB))
  | byte (b : Byte) (q : List Byte) (t : State) (h : s.sc ≠ .idle) (ht : tr = .delivers) (hq : s.rxq = b :: q)
    (e : ByteEffect b (s.takeByte b) t) : ReceiveEffect tr s t

/-- A receive turn leads to one of these states, or the index is out of range. -/
theorem receiveStep_cases (tr : Transport) (s : State) :
    (∃ t, receiveStep tr s = .next t ∧ ReceiveEffect tr s t) ∨
    (receiveStep tr s = .fault .frameIndex ∧ (s.sc = .collect ∨ s.sc = .head) ∧ 8 ≤ s.fbLen.toNat) := by
  by_cases h : s.sc = .idle
  · exact .inl ⟨s, by simp [receiveStep, h], .idle h⟩
  · cases tr with
    | fails => exact .inl ⟨_, by simp [receiveStep, h, State.rxTake, State.takeItem], .error h rfl⟩
    | delivers =>
      cases hq : s.rxq with
      | nil =>
        exact .inl ⟨_, by simp [receiveStep, h, State.rxTake, State.takeItem, hq], .timeout h rfl hq⟩
      | cons b q =>
        have hr : receiveStep .delivers s = byteRule b (s.takeByte b) := by
          simp [receiveStep, h, State.rxTake, State.takeItem, hq]
        rw [hr]
        rcases byteRule_cases b (s.takeByte b) with ⟨t, ht, e⟩ | ⟨hf, hs, hl⟩ | ⟨_, hi⟩
        · exact .inl ⟨t, ht, .byte b q t h rfl hq e⟩
        · exact .inr ⟨hf, hs, hl⟩
        · exact absurd hi h

/-- Every state a step can lead to, by the turn it takes. -/
inductive StepEffect (s : State) : State → Prop where
  | word (p : Port) (bytes rest : List Byte) (i : Instr) (t : State) (hn : s.nextInput = .word p bytes)
    (hd : decode p bytes = .ok (i, rest)) (e : ExecEffect i (s.popInput.returnRest p rest) t) : StepEffect s t
  | arrive (b : Byte) (hn : s.nextInput = .arrive b) : StepEffect s (s.popInput.arriveAll [b])
  | receive (tr : Transport) (t : State) (hn : s.nextInput = .receive tr) (e : ReceiveEffect tr s.popInput t) :
    StepEffect s t
  | flush (n : Nat) (hn : s.nextInput = .flush n) : StepEffect s (s.popInput.flush n)

/-- A step that answers a next state has one of these effects. -/
theorem step_effect (s t : State) (h : step s = .next t) : StepEffect s t := by
  unfold step takeTurn deliver at h
  split at h
  · rename_i p bytes hn
    unfold runWord at h
    split at h
    · rename_i i rest hd
      obtain ⟨t', ht', e⟩ := exec_effect i (s.popInput.returnRest p rest)
      rw [ht'] at h
      cases h
      exact .word p bytes rest i t hn hd e
    · cases h
  · cases h
    exact .arrive _ ‹_›
  · rename_i tr hn
    rcases receiveStep_cases tr s.popInput with ⟨t', ht', e⟩ | ⟨hf, _⟩
    · rw [ht'] at h
      cases h
      exact .receive tr t hn e
    · rw [hf] at h
      cases h
  · cases h
    exact .flush _ ‹_›

/-- The one fault (R25, R50; 93 I18): a receive turn in COLLECT or HEAD with `fb_len` 8 or more. -/
theorem step_fault (s : State) (r : Fault) (h : step s = .fault r) :
    (∃ tr, s.nextInput = .receive tr) ∧ (s.sc = .collect ∨ s.sc = .head) ∧ 8 ≤ s.fbLen.toNat := by
  unfold step takeTurn deliver at h
  split at h
  · unfold runWord at h
    split at h
    · rename_i i rest hd
      obtain ⟨t', ht', _⟩ := exec_effect i (s.popInput.returnRest _ rest)
      rw [ht'] at h
      cases h
    · cases h
  · cases h
  · rename_i tr hn
    rcases receiveStep_cases tr s.popInput with ⟨t', ht', _⟩ | ⟨_, hs, hl⟩
    · rw [ht'] at h
      cases h
    · exact ⟨⟨tr, hn⟩, by simpa using hs, by simpa using hl⟩
  · cases h

end Sys2Proof.Machine
end

