-- ==== Sys2Proof/Laws/PerInstr.lean ====
section
/-! SUPPORT. The family `RowMatch`: every well-formed instruction's word matches the instruction's row of
spec/opcode_table.json (R70), one lemma per constructor. -/

namespace Sys2Proof.Laws

/-- The word of a well-formed instruction matches its row of the opcode table (R70). -/
def RowMatch.Statement (i : Instr) : Prop := i.wellFormed = true → i.row.accepts (encode i) = true

theorem outRow_accepts (name : String) (cmd p0 p1 : Byte) : (outRow name cmd).accepts (outWord cmd p0 p1) = true := by
  simp [outRow, TableRow.accepts, outWord]
  exact BitVec.and_allOnes

theorem inRow_accepts (name : String) (echo p0 p1 p2 : Byte) :
    (inRow name echo).accepts (inWord echo p0 p1 p2) = true := by
  simp [inRow, TableRow.accepts, inWord]
  exact BitVec.and_allOnes

theorem RowMatch.enc (cmd p0 p1 : Byte) : RowMatch.Statement (.enc cmd p0 p1) := fun _ => by
  simp [Instr.row, TableRow.accepts, encode]

theorem RowMatch.dec (exp n : Byte) (raw : List Byte) : RowMatch.Statement (.dec exp n raw) := fun _ => by
  simp [Instr.row, TableRow.accepts, encode]

theorem RowMatch.recv (exp : Byte) : RowMatch.Statement (.recv exp) := fun _ => by
  simp [Instr.row, TableRow.accepts, encode]

theorem RowMatch.xfer (cmd p0 p1 : Byte) : RowMatch.Statement (.xfer cmd p0 p1) := fun _ => by
  simp [Instr.row, TableRow.accepts, encode]

theorem RowMatch.reset : RowMatch.Statement (.reset) := fun _ => by
  decide

theorem RowMatch.reserved00 : RowMatch.Statement (.reserved00) := fun _ => by
  decide

theorem RowMatch.reserved05 : RowMatch.Statement (.reserved05) := fun _ => by
  decide

theorem RowMatch.reserved06 (low : BitVec 1) : RowMatch.Statement (.reserved06 low) := fun _ => by
  revert low
  decide

theorem RowMatch.reserved08 (low : BitVec 2) : RowMatch.Statement (.reserved08 low) := fun _ => by
  revert low
  decide

theorem RowMatch.reserved0C (low : BitVec 1) : RowMatch.Statement (.reserved0C low) := fun _ => by
  revert low
  decide

theorem RowMatch.reserved0E : RowMatch.Statement (.reserved0E) := fun _ => by
  decide

theorem RowMatch.reserved10 (low : BitVec 4) : RowMatch.Statement (.reserved10 low) := fun _ => by
  revert low
  decide

theorem RowMatch.reserved20 (low : BitVec 5) : RowMatch.Statement (.reserved20 low) := fun _ => by
  revert low
  decide

theorem RowMatch.reserved40 (low : BitVec 6) : RowMatch.Statement (.reserved40 low) := fun _ => by
  revert low
  decide

theorem RowMatch.reserved80 (low : BitVec 7) : RowMatch.Statement (.reserved80 low) := fun _ => by
  revert low
  decide

theorem RowMatch.outFrame (cmd p0 p1 : Byte) : RowMatch.Statement (.outFrame cmd p0 p1) := fun _ => by
  simp [Instr.row, TableRow.accepts, encode, outWord]

theorem RowMatch.outOutputEnable (p0 p1 : Byte) : RowMatch.Statement (.outOutputEnable p0 p1) := fun _ => outRow_accepts _ _ _ _

theorem RowMatch.outSetCurrent (p0 p1 : Byte) : RowMatch.Statement (.outSetCurrent p0 p1) := fun _ => outRow_accepts _ _ _ _

theorem RowMatch.outSetVoltageCutoff (p0 p1 : Byte) : RowMatch.Statement (.outSetVoltageCutoff p0 p1) := fun _ => outRow_accepts _ _ _ _

theorem RowMatch.outSetTimer (p0 p1 : Byte) : RowMatch.Statement (.outSetTimer p0 p1) := fun _ => outRow_accepts _ _ _ _

theorem RowMatch.outReset (p0 p1 : Byte) : RowMatch.Statement (.outReset p0 p1) := fun _ => outRow_accepts _ _ _ _

theorem RowMatch.outSetMode (p0 p1 : Byte) : RowMatch.Statement (.outSetMode p0 p1) := fun _ => outRow_accepts _ _ _ _

theorem RowMatch.outOnOff (p0 p1 : Byte) : RowMatch.Statement (.outOnOff p0 p1) := fun _ => outRow_accepts _ _ _ _

theorem RowMatch.outVoltage (p0 p1 : Byte) : RowMatch.Statement (.outVoltage p0 p1) := fun _ => outRow_accepts _ _ _ _

theorem RowMatch.outCurrent (p0 p1 : Byte) : RowMatch.Statement (.outCurrent p0 p1) := fun _ => outRow_accepts _ _ _ _

theorem RowMatch.outElapsedTime (p0 p1 : Byte) : RowMatch.Statement (.outElapsedTime p0 p1) := fun _ => outRow_accepts _ _ _ _

theorem RowMatch.outCapacityAh (p0 p1 : Byte) : RowMatch.Statement (.outCapacityAh p0 p1) := fun _ => outRow_accepts _ _ _ _

theorem RowMatch.outCapacityWh (p0 p1 : Byte) : RowMatch.Statement (.outCapacityWh p0 p1) := fun _ => outRow_accepts _ _ _ _

theorem RowMatch.outTemperature (p0 p1 : Byte) : RowMatch.Statement (.outTemperature p0 p1) := fun _ => outRow_accepts _ _ _ _

theorem RowMatch.outCurrentLimit (p0 p1 : Byte) : RowMatch.Statement (.outCurrentLimit p0 p1) := fun _ => outRow_accepts _ _ _ _

theorem RowMatch.outVoltageLimit (p0 p1 : Byte) : RowMatch.Statement (.outVoltageLimit p0 p1) := fun _ => outRow_accepts _ _ _ _

theorem RowMatch.outTimer (p0 p1 : Byte) : RowMatch.Statement (.outTimer p0 p1) := fun _ => outRow_accepts _ _ _ _

theorem RowMatch.inFrame (echo p0 p1 p2 : Byte) : RowMatch.Statement (.inFrame echo p0 p1 p2) := fun _ => by
  simp [Instr.row, TableRow.accepts, encode, inWord]

theorem RowMatch.inOnOff (p0 p1 p2 : Byte) : RowMatch.Statement (.inOnOff p0 p1 p2) := fun _ => inRow_accepts _ _ _ _ _

theorem RowMatch.inVoltage (p0 p1 p2 : Byte) : RowMatch.Statement (.inVoltage p0 p1 p2) := fun _ => inRow_accepts _ _ _ _ _

theorem RowMatch.inCurrent (p0 p1 p2 : Byte) : RowMatch.Statement (.inCurrent p0 p1 p2) := fun _ => inRow_accepts _ _ _ _ _

theorem RowMatch.inElapsedTime (p0 p1 p2 : Byte) : RowMatch.Statement (.inElapsedTime p0 p1 p2) := fun _ => inRow_accepts _ _ _ _ _

theorem RowMatch.inCapacityAh (p0 p1 p2 : Byte) : RowMatch.Statement (.inCapacityAh p0 p1 p2) := fun _ => inRow_accepts _ _ _ _ _

theorem RowMatch.inCapacityWh (p0 p1 p2 : Byte) : RowMatch.Statement (.inCapacityWh p0 p1 p2) := fun _ => inRow_accepts _ _ _ _ _

theorem RowMatch.inTemperature (p0 p1 p2 : Byte) : RowMatch.Statement (.inTemperature p0 p1 p2) := fun _ => inRow_accepts _ _ _ _ _

theorem RowMatch.inCurrentLimit (p0 p1 p2 : Byte) : RowMatch.Statement (.inCurrentLimit p0 p1 p2) := fun _ => inRow_accepts _ _ _ _ _

theorem RowMatch.inVoltageLimit (p0 p1 p2 : Byte) : RowMatch.Statement (.inVoltageLimit p0 p1 p2) := fun _ => inRow_accepts _ _ _ _ _

theorem RowMatch.inTimer (p0 p1 p2 : Byte) : RowMatch.Statement (.inTimer p0 p1 p2) := fun _ => inRow_accepts _ _ _ _ _

theorem RowMatch.ack : RowMatch.Statement (.ack) := fun _ => by
  decide

end Sys2Proof.Laws
end

