-- ==== Sys2Proof/Laws/Run.lean ====
section
/-! SUPPORT. Steps and runs under scheduled turns. -/

namespace Sys2Proof.Machine

/-- A step under a scheduled turn carries that turn out. -/
theorem step_of_inputs (s : State) (i : Input) (r : List Input) (h : s.inputs = i :: r) :
    step s = deliver i { s with inputs := r } := by
  unfold step takeTurn
  rw [s.nextInput_of_cons i r h, s.popInput_of_cons i r h]

/-- A step under a receive turn is a receive step. -/
theorem step_of_receive (s : State) (tr : Transport) (r : List Input) (h : s.inputs = .receive tr :: r) :
    step s = receiveStep tr { s with inputs := r } := step_of_inputs s _ r h

@[simp] theorem run_zero (s : State) : run 0 s = .next s := rfl

/-- A run begins with a step. -/
theorem run_succ_of_step (n : Nat) (s t : State) (h : step s = .next t) : run (n + 1) s = run n t := by
  have hc : Sys2Proof.core.step s = .next t := h
  simp only [run, Host.Core.run, hc]
  rfl

/-- A run stops at a fault. -/
theorem run_succ_of_fault (n : Nat) (s : State) (r : Fault) (h : step s = .fault r) : run (n + 1) s = .fault r := by
  have hc : Sys2Proof.core.step s = .fault r := h
  simp only [run, Host.Core.run, hc]
  rfl

/-- A run stops at a refusal. -/
theorem run_succ_of_refused (n : Nat) (s : State) (r : Refusal) (h : step s = .refused r) : run (n + 1) s = .refused r := by
  have hc : Sys2Proof.core.step s = .refused r := h
  simp only [run, Host.Core.run, hc]
  rfl

/-- A run of `n + 1` steps that answers a next state begins with a step that does. -/
theorem run_succ_next (n : Nat) (s u : State) (h : run (n + 1) s = .next u) : ∃ t, step s = .next t ∧ run n t = .next u := by
  cases hs : step s with
  | next t => exact ⟨t, rfl, by rwa [run_succ_of_step n s t hs] at h⟩
  | fault r =>
    have hc : Sys2Proof.core.step s = .fault r := hs
    simp [run, Host.Core.run, hc] at h
  | refused r =>
    have hc : Sys2Proof.core.step s = .refused r := hs
    simp [run, Host.Core.run, hc] at h

/-- Runs compose. -/
theorem run_add (m n : Nat) (s t : State) (h : run m s = .next t) : run (m + n) s = run n t := by
  induction m generalizing s with
  | zero =>
    cases h
    rw [Nat.zero_add]
  | succ m ih =>
    obtain ⟨u, hu, hr⟩ := run_succ_next m s t h
    rw [Nat.add_right_comm, run_succ_of_step (m + n) s u hu]
    exact ih u hr

/-- What every step keeps holds along every run. -/
theorem run_induction (P : State → Prop) (hstep : ∀ s t, P s → step s = .next t → P t) (n : Nat) (s t : State)
    (hs : P s) (h : run n s = .next t) : P t := by
  induction n generalizing s with
  | zero =>
    cases h
    exact hs
  | succ n ih =>
    obtain ⟨u, hu, hr⟩ := run_succ_next n s t h
    exact ih u (hstep s u hs hu) hr

/-- A waiting byte is taken by a receive turn of a busy engine. -/
theorem receiveStep_of_byte (s : State) (b : Byte) (q : List Byte) (h : s.sc ≠ .idle) (hq : s.rxq = b :: q) :
    receiveStep .delivers s = byteRule b (s.takeByte b) := by
  simp [receiveStep, h, State.rxTake, State.takeItem, hq]

/-- An empty queue gives a busy engine the `Timeout`. -/
theorem receiveStep_of_empty (s : State) (h : s.sc ≠ .idle) (hq : s.rxq = []) :
    receiveStep .delivers s = .next (s.finish (timeoutVerdict s.rxCount s.firstB)) := by
  simp [receiveStep, h, State.rxTake, State.takeItem, hq]

/-- A failing read ends a busy engine's transaction. -/
theorem receiveStep_of_fails (s : State) (h : s.sc ≠ .idle) :
    receiveStep .fails s = .next (s.finish .transportError) := by
  simp [receiveStep, h, State.rxTake, State.takeItem]

end Sys2Proof.Machine
end

