-- ==== Sys2Proof/Tests/Slice0.lean ====
section
/-! SUPPORT. The model's own tests: decoding of words written out from the spec, the refusals of WellFormed, one-step
tests whose expected values are those of spec/95_test_vectors.md, and for every obligation with hypotheses a witness
that meets them. -/

namespace Sys2Proof.Tests

open Sys2Proof.Machine

/-! ## Helpers -/

/-- A field of the next state, if there is one. -/
def look {α : Type} (f : State → α) : Host.Outcome State Fault Refusal → Option α
  | .next t => some (f t)
  | .fault _ => none
  | .refused _ => none

/-- A state in the middle of nothing: reset values, with a given engine state. -/
def inState (c : ScState) : State := { State.reset with sc := c }

/-- Reset values with an engine state, waiting bytes, and the engine's turn next. -/
def onTurn (c : ScState) (q : List Byte) : State := { State.reset with sc := c, rxq := q, inputs := [.receive .delivers] }

/-- A voltage frame of X1, and the same with the frame buffer holding all but its last byte. -/
def voltageFrame : List Byte := [0xCA, 0xCB, 0x11, 0x00, 0x03, 0xE8, 0xCE, 0xCF]

/-- COLLECT with the seven bytes of X1 held and the eighth, `b`, waiting. -/
def sevenHeld (b : Byte) : State :=
  { onTurn .collect [b] with
    expR := 0x11, fb := #v[0xCA, 0xCB, 0x11, 0x00, 0x03, 0xE8, 0xCE, 0x00], fbLen := 7, firstB := 0xCA, rxCount := 7 }

/-- HEAD with `0xCA` held and `b` waiting. -/
def headHeld (o : ScanOrigin) (b : Byte) : State :=
  { onTurn .head [b] with
    cfg := { scanOrigin := o }, fb := #v[0xCA, 0x00, 0x00, 0x00, 0x00, 0x00, 0x00, 0x00], fbLen := 1, firstB := 0xCA
    rxCount := 1 }

/-- CONFIRM with `0xCA` held and `b` waiting (after V3's first byte). -/
def confirmHeld (b : Byte) : State :=
  { onTurn .confirm [b] with
    fb := #v[0xCA, 0x00, 0x00, 0x00, 0x00, 0x00, 0x00, 0x00], fbLen := 1, firstB := 0xCA, rxCount := 1 }

/-- SKIP of SCAN_ORIGIN 8 after `n` bytes. -/
def skipping (n : Word32) : State :=
  { onTurn .skip [0xCA] with cfg := { scanOrigin := .eight }, firstB := 0x01, rxCount := n, discCount := n }

/-- A fresh transaction for `0x11` with bytes waiting and engine turns scheduled. -/
def fresh (o : ScanOrigin) (q : List Byte) (turns : Nat) : State :=
  { State.reset with
    cfg := { scanOrigin := o }, sc := startState o, expR := 0x11, rxq := q, inputs := receiveTurns turns }

/-- A state with a recorded misuse, while a transaction is in progress (M9). -/
def misused : State := { inState .collect with fbLen := 2, misuse := true, misuseCause := .badLen }

/-! ## Decoding: a word of every row, written out from R71 to R82 and the opcode table -/

/-- What the decoder reads from bytes at a port, with nothing left over. -/
def reads (p : Port) (bytes : List Byte) : Option Instr :=
  match decode p bytes with
  | .ok (i, []) => some i
  | _ => none

theorem test_decode_enc : reads .host [0x01, 0x03, 0x0C, 0x22] = some (.enc 0x03 0x0C 0x22) := by decide

theorem test_decode_dec : reads .host [0x02, 0x01, 0x01, 0x6F] = some (.dec 0x01 0x01 [0x6F]) := by decide

theorem test_decode_recv : reads .host [0x03, 0x11] = some (.recv 0x11) := by decide

theorem test_decode_xfer : reads .host [0x04, 0x01, 0x02, 0x03] = some (.xfer 0x01 0x02 0x03) := by decide

theorem test_decode_reset : reads .host [0x0F] = some (.reset) := by decide

theorem test_decode_reserved00 : reads .host [0x00] = some (.reserved00) := by decide

theorem test_decode_reserved05 : reads .host [0x05] = some (.reserved05) := by decide

theorem test_decode_reserved06 : reads .host [0x07] = some (.reserved06 1) := by decide

theorem test_decode_reserved08 : reads .host [0x0A] = some (.reserved08 2) := by decide

theorem test_decode_reserved0C : reads .host [0x0D] = some (.reserved0C 1) := by decide

theorem test_decode_reserved0E : reads .host [0x0E] = some (.reserved0E) := by decide

theorem test_decode_reserved10 : reads .host [0x1B] = some (.reserved10 0xB) := by decide

theorem test_decode_reserved20 : reads .host [0x3A] = some (.reserved20 0x1A) := by decide

theorem test_decode_reserved40 : reads .host [0x6F] = some (.reserved40 0x2F) := by decide

theorem test_decode_reserved80 : reads .host [0xB1] = some (.reserved80 0x31) := by decide

theorem test_decode_outFrame : reads .lineOut [0xB1, 0xB2, 0xB6, 0x01, 0x02, 0xB6] = some (.outFrame 0xB6 0x01 0x02) := by decide

theorem test_decode_outOutputEnable : reads .lineOut [0xB1, 0xB2, 0x01, 0x0C, 0x22, 0xB6] = some (.outOutputEnable 0x0C 0x22) := by decide

theorem test_decode_outSetCurrent : reads .lineOut [0xB1, 0xB2, 0x02, 0x0C, 0x22, 0xB6] = some (.outSetCurrent 0x0C 0x22) := by decide

theorem test_decode_outSetVoltageCutoff : reads .lineOut [0xB1, 0xB2, 0x03, 0x0C, 0x22, 0xB6] = some (.outSetVoltageCutoff 0x0C 0x22) := by decide

theorem test_decode_outSetTimer : reads .lineOut [0xB1, 0xB2, 0x04, 0x0C, 0x22, 0xB6] = some (.outSetTimer 0x0C 0x22) := by decide

theorem test_decode_outReset : reads .lineOut [0xB1, 0xB2, 0x05, 0x0C, 0x22, 0xB6] = some (.outReset 0x0C 0x22) := by decide

theorem test_decode_outSetMode : reads .lineOut [0xB1, 0xB2, 0x06, 0x0C, 0x22, 0xB6] = some (.outSetMode 0x0C 0x22) := by decide

theorem test_decode_outOnOff : reads .lineOut [0xB1, 0xB2, 0x10, 0x0C, 0x22, 0xB6] = some (.outOnOff 0x0C 0x22) := by decide

theorem test_decode_outVoltage : reads .lineOut [0xB1, 0xB2, 0x11, 0x0C, 0x22, 0xB6] = some (.outVoltage 0x0C 0x22) := by decide

theorem test_decode_outCurrent : reads .lineOut [0xB1, 0xB2, 0x12, 0x0C, 0x22, 0xB6] = some (.outCurrent 0x0C 0x22) := by decide

theorem test_decode_outElapsedTime : reads .lineOut [0xB1, 0xB2, 0x13, 0x0C, 0x22, 0xB6] = some (.outElapsedTime 0x0C 0x22) := by decide

theorem test_decode_outCapacityAh : reads .lineOut [0xB1, 0xB2, 0x14, 0x0C, 0x22, 0xB6] = some (.outCapacityAh 0x0C 0x22) := by decide

theorem test_decode_outCapacityWh : reads .lineOut [0xB1, 0xB2, 0x15, 0x0C, 0x22, 0xB6] = some (.outCapacityWh 0x0C 0x22) := by decide

theorem test_decode_outTemperature : reads .lineOut [0xB1, 0xB2, 0x16, 0x0C, 0x22, 0xB6] = some (.outTemperature 0x0C 0x22) := by decide

theorem test_decode_outCurrentLimit : reads .lineOut [0xB1, 0xB2, 0x17, 0x0C, 0x22, 0xB6] = some (.outCurrentLimit 0x0C 0x22) := by decide

theorem test_decode_outVoltageLimit : reads .lineOut [0xB1, 0xB2, 0x18, 0x0C, 0x22, 0xB6] = some (.outVoltageLimit 0x0C 0x22) := by decide

theorem test_decode_outTimer : reads .lineOut [0xB1, 0xB2, 0x19, 0x0C, 0x22, 0xB6] = some (.outTimer 0x0C 0x22) := by decide

theorem test_decode_inFrame : reads .lineIn [0xCA, 0xCB, 0x05, 0xCA, 0xCB, 0xCE, 0xCE, 0xCF] = some (.inFrame 0x05 0xCA 0xCB 0xCE) := by decide

theorem test_decode_inOnOff : reads .lineIn [0xCA, 0xCB, 0x10, 0x01, 0x02, 0x03, 0xCE, 0xCF] = some (.inOnOff 0x01 0x02 0x03) := by decide

theorem test_decode_inVoltage : reads .lineIn [0xCA, 0xCB, 0x11, 0x01, 0x02, 0x03, 0xCE, 0xCF] = some (.inVoltage 0x01 0x02 0x03) := by decide

theorem test_decode_inCurrent : reads .lineIn [0xCA, 0xCB, 0x12, 0x01, 0x02, 0x03, 0xCE, 0xCF] = some (.inCurrent 0x01 0x02 0x03) := by decide

theorem test_decode_inElapsedTime : reads .lineIn [0xCA, 0xCB, 0x13, 0x01, 0x02, 0x03, 0xCE, 0xCF] = some (.inElapsedTime 0x01 0x02 0x03) := by decide

theorem test_decode_inCapacityAh : reads .lineIn [0xCA, 0xCB, 0x14, 0x01, 0x02, 0x03, 0xCE, 0xCF] = some (.inCapacityAh 0x01 0x02 0x03) := by decide

theorem test_decode_inCapacityWh : reads .lineIn [0xCA, 0xCB, 0x15, 0x01, 0x02, 0x03, 0xCE, 0xCF] = some (.inCapacityWh 0x01 0x02 0x03) := by decide

theorem test_decode_inTemperature : reads .lineIn [0xCA, 0xCB, 0x16, 0x01, 0x02, 0x03, 0xCE, 0xCF] = some (.inTemperature 0x01 0x02 0x03) := by decide

theorem test_decode_inCurrentLimit : reads .lineIn [0xCA, 0xCB, 0x17, 0x01, 0x02, 0x03, 0xCE, 0xCF] = some (.inCurrentLimit 0x01 0x02 0x03) := by decide

theorem test_decode_inVoltageLimit : reads .lineIn [0xCA, 0xCB, 0x18, 0x01, 0x02, 0x03, 0xCE, 0xCF] = some (.inVoltageLimit 0x01 0x02 0x03) := by decide

theorem test_decode_inTimer : reads .lineIn [0xCA, 0xCB, 0x19, 0x01, 0x02, 0x03, 0xCE, 0xCF] = some (.inTimer 0x01 0x02 0x03) := by decide

theorem test_decode_ack : reads .lineIn [0x6F] = some (.ack) := by decide

/-! ### Lengths, refusals, and the bytes after a word (R76, R83, R84) -/

/-- DEC with `n = 9` takes no raw bytes (DC17, R83). -/
theorem test_decode_dec_badLen : decode .host [0x02, 0x11, 0x09, 0x0F] = .ok (.dec 0x11 0x09 [], [0x0F]) := by decide

/-- DEC with `n = 8` takes eight (DC1, R78). -/
theorem test_decode_dec_longest : decode .host ([0x02, 0x11, 0x08] ++ voltageFrame ++ [0x03]) =
    .ok (.dec 0x11 0x08 voltageFrame, [0x03]) := by decide

/-- A reserved op byte takes no operand bytes (R82). -/
theorem test_decode_reserved_rest : decode .host [0x80, 0x11] = .ok (.reserved80 0, [0x11]) := by decide

theorem test_decode_truncated : decode .host [0x04, 0x11] = .error .truncated ∧
    decode .host [0x02, 0x11, 0x02, 0x00] = .error .truncated ∧ decode .host [] = .error .truncated := by decide

/-- Wrong footers and lengths are no row of the wire ports (R70). -/
theorem test_decode_noRow : decode .lineOut [0xB1, 0xB2, 0x11, 0x00, 0x00, 0xB7] = .error .noRow ∧
    decode .lineIn [0xCA, 0xCB, 0x11, 0x00, 0x03, 0xE8, 0xCF, 0xCE] = .error .noRow ∧
    decode .lineIn [0x6F, 0x6F] = .error .noRow := by decide

/-- The table words, numbered by R70: byte 0 holds the most significant bits. -/
theorem test_tableWord : decodeTableWord 32 0x01030C22 = some (.enc 0x03 0x0C 0x22) ∧
    decodeTableWord 8 0x02 = some (.dec 0x00 0x00 []) ∧ decodeTableWord 16 0x0311 = some (.recv 0x11) ∧
    decodeTableWord 48 0xB1B2000000B6 = some (.outFrame 0x00 0x00 0x00) ∧
    decodeTableWord 64 0xCACB11000000CECF = some (.inVoltage 0x00 0x00 0x00) ∧
    decodeTableWord 8 0x6F = some .ack ∧ decodeTableWord 8 0x40 = some (.reserved40 0) := by decide

/-- A table word placed for the next step runs there (E6, M2). -/
theorem test_withFetchWord :
    look (·.txs) (step (State.reset.withFetchWord 32 0x01030C22)) = some [0xB1, 0xB2, 0x03, 0x0C, 0x22, 0xB6] ∧
    look (·.statusWord) (step (State.reset.withFetchWord 8 0x00)) = some 0x00000280 := by decide

/-! ### The assembler (R90, R91): the host words of X1, E4, E7 and M2 -/

theorem test_assemble : assemble (.dec 0x11 voltageFrame) = [0x02, 0x11, 0x08] ++ voltageFrame ∧
    assemble .outputOn = [0x01, 0x01, 0x01, 0x00] ∧ assemble (.enc16 0x04 3600) = [0x01, 0x04, 0x0E, 0x10] ∧
    assemble (.byte 0x00) = [0x00] := by decide

theorem test_assembler_text : (AsmLine.xfer 0x11 0x00 0x00).text = "XFER 0x11, 0x00, 0x00" ∧
    (AsmLine.dec 0x01 [0x6F]).text = "DEC 0x01, [0x6F]" := by decide

/-! ## WellFormed: one ill-formed term for each check -/

/-- DEC with fewer raw bytes than `n` says. -/
theorem test_wf_dec_short : (Instr.dec 0x11 0x08 [0xCA]).wellFormed = false := by decide

/-- DEC with raw bytes although `n > 8`. -/
theorem test_wf_dec_badLen : (Instr.dec 0x11 0x09 [0xCA]).wellFormed = false := by decide

/-- OUT_FRAME with a command code that has its own row. -/
theorem test_wf_outFrame : (Instr.outFrame 0x11 0x00 0x00).wellFormed = false := by decide

/-- IN_FRAME with a query code that has its own row. -/
theorem test_wf_inFrame : (Instr.inFrame 0x19 0x00 0x00 0x00).wellFormed = false := by decide

/-- IN_FRAME with a set code, which has no inbound row of its own, is well-formed. -/
theorem test_wf_inFrame_set : (Instr.inFrame 0x05 0x00 0x00 0x00).wellFormed = true := by decide

/-! ## One step of each instruction -/

/-- E5: no escaping. -/
theorem test_enc : look (fun t => (t.txs, t.txBuf.toList)) (exec (.enc 0xB6 0xB1 0xB2) State.reset) =
    some ([0xB1, 0xB2, 0xB6, 0xB1, 0xB2, 0xB6], [0xB1, 0xB2, 0xB6, 0xB1, 0xB2, 0xB6]) := by decide

/-- E8. -/
theorem test_enc_busy : look (fun t => (t.txs, t.sc, t.misuse, t.misuseCause)) (exec (.enc 0x11 0x00 0x00) (inState .seek)) =
    some ([], .seek, true, .busy) := by decide

/-- DC1. -/
theorem test_dec_ok : look (fun t => (t.resKind, t.resReason, t.resPayload)) (exec (.dec 0x11 0x08 voltageFrame) State.reset) =
    some (.ok, .none, 0x0003E8) := by decide

/-- DC17: BAD_LEN, with STATUS as in M3. -/
theorem test_dec_badLen : look (·.statusWord) (exec (.dec 0x11 0x09 []) State.reset) = some 0x00000380 := by decide

/-- DC3 to DC16: the outcomes and their order. -/
theorem test_decFrame :
    decFrame [] 0x11 = .noResponse ∧ decFrame [0x6F] 0x02 = .ackOnly ∧ decFrame [0x00] 0x11 = .short ∧
    decFrame [0xCA, 0xCB, 0x11, 0x00, 0x03, 0xE8, 0xCE] 0x11 = .short ∧ decFrame [0x6F, 0x6F] 0x11 = .short ∧
    decFrame [0xCB, 0xCA, 0x11, 0x00, 0x03, 0xE8, 0xCE, 0xCF] 0x11 = .header ∧
    decFrame [0xCA, 0xCB, 0x11, 0x00, 0x03, 0xE8, 0xCF, 0xCE] 0x11 = .footer ∧
    decFrame [0xCA, 0xCB, 0x12, 0x00, 0x03, 0xE8, 0xCE, 0xCF] 0x11 = .echo ∧
    decFrame [0x00, 0xCB, 0x12, 0x00, 0x03, 0xE8, 0x00, 0x00] 0x11 = .header ∧
    decFrame [0xCA, 0xCB, 0x12, 0x00, 0x03, 0xE8, 0xCE, 0x00] 0x11 = .footer ∧
    decFrame [0xCA, 0xCB, 0xCA, 0xCB, 0xCE, 0xCF, 0xCE, 0xCF] 0xCA = .ok 0xCBCECF := by decide

/-- RECV starts in SEEK for SCAN_ORIGIN 0 and keeps the streams (R130). -/
theorem test_recv : look (fun t => (t.sc, t.expR, t.resKind, t.rxq)) (exec (.recv 0x11) { State.reset with rxq := [0x6F] }) =
    some (.seek, 0x11, .none, [0x6F]) := by decide

/-- M1: `exp_r` and `fb_len` stay. -/
theorem test_recv_busy : look (fun t => (t.sc, t.expR, t.fbLen, t.misuseCause))
    (exec (.recv 0x12) { confirmHeld 0xCB with expR := 0x11 }) = some (.confirm, 0x11, 1, .busy) := by decide

/-- XF1, first step. -/
theorem test_xfer : look (fun t => (t.txs, t.sc, t.expR)) (exec (.xfer 0x01 0x01 0x00) State.reset) =
    some ([0xB1, 0xB2, 0x01, 0x01, 0x00, 0xB6], .seek, 0x01) := by decide

/-- XF3: refused, `exp_r` still `0x11`. -/
theorem test_xfer_busy : look (fun t => (t.txs, t.expR, t.misuseCause))
    (exec (.xfer 0x12 0x00 0x00) { inState .seek with expR := 0x11 }) = some ([], 0x11, .busy) := by decide

/-- M9: RESET is accepted in COLLECT and gives the reset state; `rxq` stays (M8). -/
theorem test_reset : exec .reset { misused with rxq := [0x00, 0x03] } = .next { State.reset with rxq := [0x00, 0x03] } := by
  rfl

/-- M2. -/
theorem test_reserved00 : look (·.statusWord) (exec .reserved00 State.reset) = some 0x00000280 := by decide

theorem test_reserved05 : look (fun t => (t.sc, t.misuseCause)) (exec .reserved05 (inState .seek)) = some (.seek, .reservedOp) := by decide

theorem test_reserved06 : look (fun t => (t.sc, t.misuseCause)) (exec (.reserved06 1) (inState .seek)) = some (.seek, .reservedOp) := by decide

theorem test_reserved08 : look (fun t => (t.sc, t.misuseCause)) (exec (.reserved08 3) (inState .seek)) = some (.seek, .reservedOp) := by decide

theorem test_reserved0C : look (fun t => (t.sc, t.misuseCause)) (exec (.reserved0C 0) (inState .seek)) = some (.seek, .reservedOp) := by decide

theorem test_reserved0E : look (fun t => (t.sc, t.misuseCause)) (exec .reserved0E (inState .seek)) = some (.seek, .reservedOp) := by decide

theorem test_reserved10 : look (fun t => (t.sc, t.misuseCause)) (exec (.reserved10 0xF) (inState .seek)) = some (.seek, .reservedOp) := by decide

theorem test_reserved20 : look (fun t => (t.sc, t.misuseCause)) (exec (.reserved20 0) (inState .seek)) = some (.seek, .reservedOp) := by decide

theorem test_reserved40 : look (fun t => (t.sc, t.misuseCause)) (exec (.reserved40 0x2F) (inState .seek)) = some (.seek, .reservedOp) := by decide

/-- M7: RESERVED_OP in SEEK, and the transaction goes on. -/
theorem test_reserved80 : look (fun t => (t.sc, t.misuseCause)) (exec (.reserved80 0x7F) (inState .seek)) =
    some (.seek, .reservedOp) := by decide

/-- M4: the first cause stays. -/
theorem test_first_cause : look (·.misuseCause) (exec .reserved00 misused) = some .badLen := by decide

/-- E2. -/
theorem test_outFrame : look (·.txs) (exec (.outFrame 0x00 0x00 0x00) State.reset) = some [0xB1, 0xB2, 0x00, 0x00, 0x00, 0xB6] := by
  decide

theorem test_outOutputEnable : look (·.txs) (exec (.outOutputEnable 0x0C 0x22) State.reset) = some [0xB1, 0xB2, 0x01, 0x0C, 0x22, 0xB6] := by decide

theorem test_outSetCurrent : look (·.txs) (exec (.outSetCurrent 0x0C 0x22) State.reset) = some [0xB1, 0xB2, 0x02, 0x0C, 0x22, 0xB6] := by decide

theorem test_outSetVoltageCutoff : look (·.txs) (exec (.outSetVoltageCutoff 0x0C 0x22) State.reset) = some [0xB1, 0xB2, 0x03, 0x0C, 0x22, 0xB6] := by decide

theorem test_outSetTimer : look (·.txs) (exec (.outSetTimer 0x0C 0x22) State.reset) = some [0xB1, 0xB2, 0x04, 0x0C, 0x22, 0xB6] := by decide

theorem test_outReset : look (·.txs) (exec (.outReset 0x0C 0x22) State.reset) = some [0xB1, 0xB2, 0x05, 0x0C, 0x22, 0xB6] := by decide

theorem test_outSetMode : look (·.txs) (exec (.outSetMode 0x0C 0x22) State.reset) = some [0xB1, 0xB2, 0x06, 0x0C, 0x22, 0xB6] := by decide

theorem test_outOnOff : look (·.txs) (exec (.outOnOff 0x0C 0x22) State.reset) = some [0xB1, 0xB2, 0x10, 0x0C, 0x22, 0xB6] := by decide

theorem test_outVoltage : look (·.txs) (exec (.outVoltage 0x0C 0x22) State.reset) = some [0xB1, 0xB2, 0x11, 0x0C, 0x22, 0xB6] := by decide

theorem test_outCurrent : look (·.txs) (exec (.outCurrent 0x0C 0x22) State.reset) = some [0xB1, 0xB2, 0x12, 0x0C, 0x22, 0xB6] := by decide

theorem test_outElapsedTime : look (·.txs) (exec (.outElapsedTime 0x0C 0x22) State.reset) = some [0xB1, 0xB2, 0x13, 0x0C, 0x22, 0xB6] := by decide

theorem test_outCapacityAh : look (·.txs) (exec (.outCapacityAh 0x0C 0x22) State.reset) = some [0xB1, 0xB2, 0x14, 0x0C, 0x22, 0xB6] := by decide

theorem test_outCapacityWh : look (·.txs) (exec (.outCapacityWh 0x0C 0x22) State.reset) = some [0xB1, 0xB2, 0x15, 0x0C, 0x22, 0xB6] := by decide

theorem test_outTemperature : look (·.txs) (exec (.outTemperature 0x0C 0x22) State.reset) = some [0xB1, 0xB2, 0x16, 0x0C, 0x22, 0xB6] := by decide

theorem test_outCurrentLimit : look (·.txs) (exec (.outCurrentLimit 0x0C 0x22) State.reset) = some [0xB1, 0xB2, 0x17, 0x0C, 0x22, 0xB6] := by decide

theorem test_outVoltageLimit : look (·.txs) (exec (.outVoltageLimit 0x0C 0x22) State.reset) = some [0xB1, 0xB2, 0x18, 0x0C, 0x22, 0xB6] := by decide

theorem test_outTimer : look (·.txs) (exec (.outTimer 0x0C 0x22) State.reset) = some [0xB1, 0xB2, 0x19, 0x0C, 0x22, 0xB6] := by decide

/-- An inbound word arrives behind the bytes that wait (R62). -/
theorem test_inFrame : look (·.rxq) (exec (.inFrame 0x05 0x01 0x02 0x03) { State.reset with rxq := [0x99] }) =
    some [0x99, 0xCA, 0xCB, 0x05, 0x01, 0x02, 0x03, 0xCE, 0xCF] := by decide

theorem test_inOnOff : look (·.rxq) (exec (.inOnOff 0x01 0x02 0x03) State.reset) = some [0xCA, 0xCB, 0x10, 0x01, 0x02, 0x03, 0xCE, 0xCF] := by decide

theorem test_inVoltage : look (·.rxq) (exec (.inVoltage 0x01 0x02 0x03) State.reset) = some [0xCA, 0xCB, 0x11, 0x01, 0x02, 0x03, 0xCE, 0xCF] := by decide

theorem test_inCurrent : look (·.rxq) (exec (.inCurrent 0x01 0x02 0x03) State.reset) = some [0xCA, 0xCB, 0x12, 0x01, 0x02, 0x03, 0xCE, 0xCF] := by decide

theorem test_inElapsedTime : look (·.rxq) (exec (.inElapsedTime 0x01 0x02 0x03) State.reset) = some [0xCA, 0xCB, 0x13, 0x01, 0x02, 0x03, 0xCE, 0xCF] := by decide

theorem test_inCapacityAh : look (·.rxq) (exec (.inCapacityAh 0x01 0x02 0x03) State.reset) = some [0xCA, 0xCB, 0x14, 0x01, 0x02, 0x03, 0xCE, 0xCF] := by decide

theorem test_inCapacityWh : look (·.rxq) (exec (.inCapacityWh 0x01 0x02 0x03) State.reset) = some [0xCA, 0xCB, 0x15, 0x01, 0x02, 0x03, 0xCE, 0xCF] := by decide

theorem test_inTemperature : look (·.rxq) (exec (.inTemperature 0x01 0x02 0x03) State.reset) = some [0xCA, 0xCB, 0x16, 0x01, 0x02, 0x03, 0xCE, 0xCF] := by decide

theorem test_inCurrentLimit : look (·.rxq) (exec (.inCurrentLimit 0x01 0x02 0x03) State.reset) = some [0xCA, 0xCB, 0x17, 0x01, 0x02, 0x03, 0xCE, 0xCF] := by decide

theorem test_inVoltageLimit : look (·.rxq) (exec (.inVoltageLimit 0x01 0x02 0x03) State.reset) = some [0xCA, 0xCB, 0x18, 0x01, 0x02, 0x03, 0xCE, 0xCF] := by decide

theorem test_inTimer : look (·.rxq) (exec (.inTimer 0x01 0x02 0x03) State.reset) = some [0xCA, 0xCB, 0x19, 0x01, 0x02, 0x03, 0xCE, 0xCF] := by decide

theorem test_ack : look (·.rxq) (exec .ack (inState .seek)) = some [0x6F] := by decide

/-! ## One step of the receive engine -/

/-- V1's first byte. -/
theorem test_seek_hit : look (fun t => (t.sc, t.fbLen, t.fb[0], t.rxCount, t.discCount, t.firstB)) (step (onTurn .seek [0xCA])) =
    some (.confirm, 1, 0xCA, 1, 0, 0xCA) := by decide

/-- V15's first byte: a lone `0xCB` is discarded. -/
theorem test_seek_miss : look (fun t => (t.sc, t.fbLen, t.rxCount, t.discCount)) (step (onTurn .seek [0xCB])) =
    some (.seek, 0, 1, 1) := by decide

/-- V4's second byte: a new candidate. -/
theorem test_confirm_again : look (fun t => (t.sc, t.fbLen, t.rxCount, t.discCount)) (step (confirmHeld 0xCA)) =
    some (.confirm, 1, 2, 1) := by decide

/-- V3's second byte: both are discarded. -/
theorem test_confirm_miss : look (fun t => (t.sc, t.fbLen, t.rxCount, t.discCount)) (step (confirmHeld 0x00)) =
    some (.seek, 0, 2, 2) := by decide

/-- V17: the header is confirmed. -/
theorem test_confirm_hit : look (fun t => (t.sc, t.fbLen, t.fb.toList.take 2)) (step (confirmHeld 0xCB)) =
    some (.collect, 2, [0xCA, 0xCB]) := by decide

/-- V1's last byte. -/
theorem test_collect_ok : look (fun t => (t.sc, t.resKind, t.resPayload, t.fbLen, t.rxCount)) (step (sevenHeld 0xCF)) =
    some (.idle, .ok, 0x0003E8, 8, 8) := by decide

/-- A wrong last byte gives FOOTER (R110). -/
theorem test_collect_footer : look (fun t => (t.sc, t.resKind, t.resReason, t.resPayload)) (step (sevenHeld 0xCA)) =
    some (.idle, .frameMismatch, .footer, 0) := by decide

/-- V21: HEAD sees the header. -/
theorem test_head_hit : look (fun t => (t.sc, t.fbLen, t.discCount)) (step (headHeld .two 0xCB)) = some (.collect, 2, 0) := by
  decide

/-- V19: HEAD drops `CA CA`, and the scan begins. -/
theorem test_head_miss_two : look (fun t => (t.sc, t.fbLen, t.discCount)) (step (headHeld .two 0xCA)) =
    some (.seek, 0, 2) := by decide

/-- With SCAN_ORIGIN 8, HEAD goes on to SKIP (R136). -/
theorem test_head_miss_eight : look (fun t => (t.sc, t.fbLen, t.discCount)) (step (headHeld .eight 0x00)) =
    some (.skip, 0, 2) := by decide

/-- V20: the eighth byte ends SKIP, and the seventh does not. -/
theorem test_skip : look (fun t => (t.sc, t.discCount)) (step (skipping 7)) = some (.seek, 8) ∧
    look (fun t => (t.sc, t.discCount)) (step (skipping 6)) = some (.skip, 7) := by decide

/-- V7. -/
theorem test_timeout_none : look (fun t => (t.sc, t.resKind)) (step (onTurn .seek [])) = some (.idle, .noResponse) := by decide

/-- V8 and V23. -/
theorem test_timeout_ack :
    look (fun t => (t.sc, t.resKind)) (step { onTurn .seek [] with rxCount := 1, discCount := 1, firstB := 0x6F }) =
      some (.idle, .ackOnly) ∧
    look (fun t => (t.sc, t.resKind)) (step { onTurn .head [] with rxCount := 1, fbLen := 1, firstB := 0x6F }) =
      some (.idle, .ackOnly) := by decide

/-- V11. -/
theorem test_timeout_short : look (fun t => (t.sc, t.resKind, t.resReason, t.fbLen))
    (step { confirmHeld 0x00 with rxq := [] }) = some (.idle, .frameMismatch, .short, 1) := by decide

/-- V25: an `Error` with bytes waiting. -/
theorem test_error : look (fun t => (t.sc, t.resKind, t.rxq)) (step { onTurn .seek voltageFrame with inputs := [.receive .fails] }) =
    some (.idle, .transportError, voltageFrame) := by decide

/-- Saturation (95, the note after V25): both counters stay at the limit. -/
theorem test_saturation : look (fun t => (t.rxCount, t.discCount))
    (step { onTurn .seek [0x00] with rxCount := 0xFFFFFFFF, discCount := 0xFFFFFFFF }) = some (0xFFFFFFFF, 0xFFFFFFFF) := by
  decide

/-- P1's and P4's STATUS values. -/
theorem test_status :
    ({ State.reset with resKind := .ok, fbLen := 8 } : State).statusWord = 0x00002001 ∧
    ({ inState .collect with fbLen := 3 } : State).statusWord = 0x0000CC40 ∧
    ({ inState .collect with fbLen := 3, misuse := true, misuseCause := .busy } : State).statusWord = 0x0000CDC0 := by decide

/-! ## Witnesses: for every obligation with hypotheses, values that meet them together, each clause at its boundary -/

theorem witness_DecodeEncodeRoundTrip :
    (Instr.dec 0x11 0x08 voltageFrame).wellFormed = true ∧ (Instr.dec 0x11 0x08 voltageFrame).port = .host ∧
    (Instr.dec 0x11 0x09 []).wellFormed = true ∧ (Instr.inFrame 0x05 0x00 0x00 0x00).wellFormed = true ∧
    (Instr.outFrame 0x00 0x00 0x00).wellFormed = true := by decide

theorem witness_EncodeDecodeExact :
    decode .host [0x02, 0x11, 0x00, 0x0F] = .ok (.dec 0x11 0x00 [], [0x0F]) ∧
    decode .lineOut [0xB1, 0xB2, 0x19, 0x00, 0x00, 0xB6] = .ok (.outTimer 0x00 0x00, []) ∧
    decode .lineIn [0x6F] = .ok (.ack, []) := by decide

theorem witness_AssemblerEmitsHostWords : voltageFrame.length ≤ 8 ∧ ([] : List Byte).length ≤ 8 := by decide

theorem witness_StepRunsDecodedInstruction :
    ({ State.reset with inputs := [.word .host [0x03, 0x11]] } : State).inputs = .word .host [0x03, 0x11] :: [] ∧
    decode .host [0x03, 0x11] = .ok (.recv 0x11, []) ∧
    ({ State.reset with inputs := [.word .host [0x0F, 0x03, 0x11]] } : State).inputs = .word .host [0x0F, 0x03, 0x11] :: [] ∧
    decode .host [0x0F, 0x03, 0x11] = .ok (.reset, [0x03, 0x11]) := by decide

theorem witness_StepAppendsArrivedByte :
    ({ inState .seek with inputs := [.arrive 0x6F] } : State).inputs = .arrive 0x6F :: [] := by decide

theorem witness_StepFlushesPrefix :
    ({ State.reset with rxq := [0x6F], inputs := [.flush 1] } : State).inputs = .flush 1 :: [] ∧
    ({ State.reset with rxq := [0x6F], inputs := [.flush 0] } : State).inputs = .flush 0 :: [] := by decide

theorem witness_StepDrawsFreeTurn : State.reset.inputs = [] := by decide

theorem witness_IdleEngineTurnPasses :
    (onTurn .idle [0xCA]).sc = .idle ∧ (onTurn .idle [0xCA]).inputs = .receive .delivers :: [] := by decide

theorem witness_EncBuildsAndSendsFrame : State.reset.sc = .idle ∧ (inState .seek).sc ≠ .idle := by decide

theorem witness_DecFrameOutcomes : ([] : List Byte).length ≤ 8 ∧ voltageFrame.length ≤ 8 := by decide

theorem witness_DecJudgesHostBytes :
    (8 < (0x09 : Byte).toNat ∧ 8 < (0xFF : Byte).toNat) ∧
    ((0x08 : Byte).toNat ≤ 8 ∧ (inState .skip).sc ≠ .idle) ∧
    ((0x08 : Byte).toNat ≤ 8 ∧ voltageFrame.length = (0x08 : Byte).toNat ∧ State.reset.sc = .idle) ∧
    ((0x00 : Byte).toNat ≤ 8 ∧ ([] : List Byte).length = (0x00 : Byte).toNat ∧ State.reset.sc = .idle) := by decide

theorem witness_DecAcceptsExactlyInFrames : voltageFrame.length ≤ 8 ∧
    decFrame voltageFrame 0x11 = .ok 0x0003E8 ∧ decode .lineIn voltageFrame = .ok (inInstr 0x11 0x00 0x03 0xE8, []) := by decide

theorem witness_RecvStartsTransaction : State.reset.sc = .idle ∧ (inState .head).sc ≠ .idle := by decide

theorem witness_XferSendsAndReceives : State.reset.sc = .idle ∧ (inState .collect).sc ≠ .idle := by decide

theorem witness_EncThenRecvIsXfer : State.reset.sc = .idle := by decide

theorem witness_ResetRestoresRegisters : ∃ t : State,
    t = { misused with
      sc := .idle, expR := 0x00, fb := #v[0, 0, 0, 0, 0, 0, 0, 0], fbLen := 0, firstB := 0x00, rxCount := 0
      discCount := 0, resKind := .none, resReason := .none, resPayload := 0, txBuf := #v[0, 0, 0, 0, 0, 0]
      misuse := false, misuseCause := .none } := ⟨_, rfl⟩

theorem witness_ReservedWordRecordsMisuse :
    ((0x00 : Byte) ≠ 0x01 ∧ (0x00 : Byte) ≠ 0x02 ∧ (0x00 : Byte) ≠ 0x03 ∧ (0x00 : Byte) ≠ 0x04 ∧ (0x00 : Byte) ≠ 0x0F) ∧
    ((0xFF : Byte) ≠ 0x01 ∧ (0xFF : Byte) ≠ 0x02 ∧ (0xFF : Byte) ≠ 0x03 ∧ (0xFF : Byte) ≠ 0x04 ∧ (0xFF : Byte) ≠ 0x0F) := by
  decide

theorem witness_ReservedOpIsRefused :
    ((0x05 : Byte) ≠ 0x01 ∧ (0x05 : Byte) ≠ 0x02 ∧ (0x05 : Byte) ≠ 0x03 ∧ (0x05 : Byte) ≠ 0x04 ∧ (0x05 : Byte) ≠ 0x0F) ∧
    ({ inState .seek with inputs := [.word .host (0x05 :: [0x11])] } : State).inputs = .word .host (0x05 :: [0x11]) :: [] ∧
    ({ State.reset with inputs := [.word .host (0x00 :: [])] } : State).inputs = .word .host (0x00 :: []) :: [] := by decide

theorem witness_ReservedRowsRecordMisuse :
    ({ State.reset with misuse := true, misuseCause := .reservedOp } : State) =
      { State.reset with
        misuse := true, misuseCause := if State.reset.misuse = true then State.reset.misuseCause else .reservedOp } := by
  decide

theorem witness_OutFrameRowsSend : State.reset.sc = .idle ∧ ∃ sent : Byte → State, ∀ cmd, sent cmd =
    { State.reset with
      txBuf := #v[0xB1, 0xB2, cmd, 0x0C, 0x22, 0xB6], txs := State.reset.txs ++ [0xB1, 0xB2, cmd, 0x0C, 0x22, 0xB6] } :=
  ⟨rfl, _, fun _ => rfl⟩

theorem witness_BusyOutFrameRowsRefused :
    (Instr.outFrame 0x00 0x00 0x00).port = .lineOut ∧ (Instr.outTimer 0x00 0x00).port = .lineOut ∧
    (inState .seek).sc ≠ .idle := by decide

theorem witness_InFrameRowsArrive : ∃ got : List Byte → State, ∀ bs, got bs =
    { inState .seek with rxq := (inState .seek).rxq ++ bs } := ⟨_, fun _ => rfl⟩

theorem witness_ByteInSeek : (onTurn .seek [0xCA, 0xCB]).sc = .seek ∧
    (onTurn .seek [0xCA, 0xCB]).inputs = .receive .delivers :: [] ∧ (onTurn .seek [0xCA, 0xCB]).rxq = 0xCA :: [0xCB] ∧
    (onTurn .seek [0xCB]).rxq = 0xCB :: [] := by decide

theorem witness_ByteInConfirm : (confirmHeld 0xCB).sc = .confirm ∧ (confirmHeld 0xCB).inputs = .receive .delivers :: [] ∧
    (confirmHeld 0xCB).rxq = 0xCB :: [] ∧ (confirmHeld 0xCA).rxq = 0xCA :: [] ∧ (confirmHeld 0x00).rxq = 0x00 :: [] := by decide

theorem witness_ByteInCollect :
    ((sevenHeld 0xCF).sc = .collect ∧ 2 ≤ (sevenHeld 0xCF).fbLen.toNat ∧ (sevenHeld 0xCF).fbLen.toNat ≤ 7 ∧
      (sevenHeld 0xCF).inputs = .receive .delivers :: [] ∧ (sevenHeld 0xCF).rxq = 0xCF :: []) ∧
    (({ onTurn .collect [0x11] with fbLen := 2 } : State).sc = .collect ∧
      2 ≤ ({ onTurn .collect [0x11] with fbLen := 2 } : State).fbLen.toNat ∧
      ({ onTurn .collect [0x11] with fbLen := 2 } : State).fbLen.toNat < 7) := by decide

theorem witness_ByteInHead :
    ((headHeld .two 0xCB).sc = .head ∧ (headHeld .two 0xCB).fbLen.toNat ≤ 1 ∧
      (headHeld .two 0xCB).inputs = .receive .delivers :: [] ∧ (headHeld .two 0xCB).rxq = 0xCB :: [] ∧
      (headHeld .two 0xCB).fb[0] = 0xCA ∧ (headHeld .two 0xCB).fbLen ≠ 0) ∧
    ((headHeld .eight 0xCA).rxq = 0xCA :: [] ∧ (headHeld .eight 0xCA).cfg.scanOrigin ≠ .two) ∧
    ((onTurn .head [0xCA]).sc = .head ∧ (onTurn .head [0xCA]).fbLen = 0) := by decide

theorem witness_ByteInSkip :
    (skipping 7).sc = .skip ∧ (skipping 7).cfg.scanOrigin = .eight ∧ (skipping 7).inputs = .receive .delivers :: [] ∧
    (skipping 7).rxq = 0xCA :: [] ∧ satAdd32 (skipping 7).rxCount 1 = 8 ∧ satAdd32 (skipping 2).rxCount 1 ≠ 8 := by decide

theorem witness_TimeoutEndsTransaction :
    ((onTurn .seek []).sc ≠ .idle ∧ (onTurn .seek []).inputs = .receive .delivers :: [] ∧ (onTurn .seek []).rxq = [] ∧
      (onTurn .seek []).rxCount = 0) ∧
    (({ onTurn .head [] with rxCount := 1, firstB := 0x6F } : State).sc ≠ .idle ∧
      ({ onTurn .head [] with rxCount := 1, firstB := 0x6F } : State).rxq = []) ∧
    ({ onTurn .seek [] with rxCount := 2, firstB := 0x6F } : State).rxq = [] := by decide

theorem witness_ErrorEndsTransaction :
    ({ onTurn .collect [0xCA] with inputs := [.receive .fails] } : State).sc ≠ .idle ∧
    ({ onTurn .collect [0xCA] with inputs := [.receive .fails] } : State).inputs = .receive .fails :: [] := by decide

/-- The state before the last byte of X1 has the invariant. -/
theorem sevenHeld_inv : (sevenHeld 0xCF).Inv := by
  constructor <;> decide

theorem witness_ReceiveTurnConsumesOneByte : (sevenHeld 0xCF).Inv ∧ (sevenHeld 0xCF).sc ≠ .idle ∧
    (sevenHeld 0xCF).nextInput = .receive .delivers ∧ (sevenHeld 0xCF).rxq = 0xCF :: [] :=
  ⟨sevenHeld_inv, by decide, by decide, by decide⟩

theorem witness_BusyRefusesHostOperations : (Instr.xfer 0x11 0x00 0x00).port = .host ∧ (inState .confirm).sc ≠ .idle ∧
    Instr.xfer 0x11 0x00 0x00 ≠ .reset ∧ Instr.reset.port = .host := by decide

theorem witness_MisusePriority : (inState .seek).sc ≠ .idle ∧ (inState .seek).misuse = false ∧
    (Instr.reserved40 0x2F).row.mnemonic = "RESERVED" ∧ 8 < (0x09 : Byte).toNat ∧ (0x08 : Byte).toNat ≤ 8 := by decide

/-- One state keeps the record, the other clears it by RESET. -/
theorem witness_MisuseIsSticky :
    (misused.misuse = true ∧ look (·.misuse) (step { misused with inputs := [.arrive 0x00] }) = some true) ∧
    look (·.misuse) (step { misused with inputs := [.word .host [0x0F]] }) = some false ∧
    look (·.misuse) (exec (.recv 0x11) State.reset) = some false := by decide

/-- The payload changes by an OK, and by RESET. -/
theorem witness_OnlyOkChangesPayload :
    (look (·.resPayload) (step (sevenHeld 0xCF)) = some 0x0003E8 ∧ (sevenHeld 0xCF).resPayload ≠ 0x0003E8) ∧
    (look (·.resPayload) (step { State.reset with resPayload := 1, inputs := [.word .host [0x0F]] }) = some 0) := by decide

theorem witness_TransactionEndsOnlyAsRuled :
    ((sevenHeld 0xCF).sc ≠ .idle ∧ look (·.sc) (step (sevenHeld 0xCF)) = some .idle) ∧
    look (·.sc) (step (onTurn .seek [])) = some .idle ∧
    look (·.sc) (step { inState .seek with inputs := [.receive .fails] }) = some .idle ∧
    look (·.sc) (step { inState .seek with inputs := [.word .host [0x0F]] }) = some .idle ∧
    look (·.sc) (step (onTurn .seek [0xCA])) = some .confirm := by decide

theorem witness_StreamsChangeOnlyAsRuled :
    look (fun t => (t.txs, t.rxq)) (step { State.reset with inputs := [.word .host [0x01, 0x11, 0x00, 0x00]] }) =
      some ([0xB1, 0xB2, 0x11, 0x00, 0x00, 0xB6], []) ∧
    look (·.txs) (step { State.reset with inputs := [.word .host [0x04, 0x01, 0x01, 0x00]] }) =
      some [0xB1, 0xB2, 0x01, 0x01, 0x00, 0xB6] ∧
    look (·.txs) (step { State.reset with inputs := [.word .lineOut [0xB1, 0xB2, 0x11, 0x00, 0x00, 0xB6]] }) =
      some [0xB1, 0xB2, 0x11, 0x00, 0x00, 0xB6] ∧
    look (·.rxq) (step { State.reset with inputs := [.word .lineIn [0x6F]] }) = some [0x6F] ∧
    look (·.rxq) (step (onTurn .seek [0xCA, 0xCB])) = some [0xCB] ∧
    look (·.rxq) (step { State.reset with rxq := [0x01, 0x02, 0x03], inputs := [.flush 2] }) = some [0x03] := by decide

theorem witness_ParameterNeverChanges : look (·.cfg) (run 1 (headHeld .two 0xCA)) = some { scanOrigin := .two } := by decide

theorem witness_StepKeepsInvariant : (sevenHeld 0xCF).Inv ∧ ∃ t, step (sevenHeld 0xCF) = .next t ∧ t.resKind = .ok :=
  ⟨sevenHeld_inv, _, rfl, by decide⟩

theorem witness_InvariantExcludesFaults : (sevenHeld 0xCF).Inv ∧ (sevenHeld 0xCF).sc = .collect := ⟨sevenHeld_inv, by decide⟩

theorem witness_CountersBalanceInEveryRun :
    look (fun t => (t.rxCount.toNat, t.discCount.toNat, t.fbLen.toNat))
      (run 2 { State.reset with rxq := [0xCA], inputs := [.word .host [0x03, 0x11], .receive .delivers] }) = some (1, 0, 1) := by
  decide

/-- Both clauses, `m` at 0, and `m = L + 2` for `L` at 0 and above. -/
theorem witness_ScanLocksOnFirstPair :
    ((fresh .zero [0xAA, 0xCA] 0).FreshReceive ∧ lockIndex ([0xAA, 0xCA].take 0) = none ∧
      (fresh .zero [0xAA, 0xCA] 0).inputs = receiveTurns 0 ++ []) ∧
    (lockIndex ([0xAA, 0xCA].take 2) = none ∧ (fresh .zero [0xAA, 0xCA] 2).inputs = receiveTurns 2 ++ [] ∧
      (fresh .zero [0xAA, 0xCA] 2).rxq.length < 2 ^ 32) ∧
    (lockIndex [0xCA, 0xCA, 0xCB] = some 1 ∧ (fresh .zero [0xCA, 0xCA, 0xCB] 3).inputs = receiveTurns (1 + 2) ++ [] ∧
      (fresh .zero [0xCA, 0xCA, 0xCB] 3).FreshReceive ∧ (fresh .zero [0xCA, 0xCA, 0xCB] 3).cfg.scanOrigin = .zero) ∧
    lockIndex [0xCA, 0xCB] = some 0 := by decide

/-- V18, V21 and V20: the lock at 0, and at 9 for SCAN_ORIGIN 8. -/
theorem witness_TransactionOutcomeAtLock :
    ((fresh .zero (voltageFrame ++ [0x99]) 8).FreshReceive ∧
      lockIndexFrom (originValue .zero) (voltageFrame ++ [0x99]) = some 0 ∧ 0 + 8 ≤ (voltageFrame ++ [0x99]).length ∧
      (voltageFrame ++ [0x99]).length < 2 ^ 32 ∧ (fresh .zero (voltageFrame ++ [0x99]) 8).inputs = receiveTurns (0 + 8) ++ []) ∧
    ((fresh .two voltageFrame 8).FreshReceive ∧ lockIndexFrom (originValue .two) voltageFrame = some 0) ∧
    ((fresh .eight (0x01 :: voltageFrame ++ voltageFrame) 17).FreshReceive ∧
      lockIndexFrom (originValue .eight) (0x01 :: voltageFrame ++ voltageFrame) = some 9 ∧
      9 + 8 ≤ (0x01 :: voltageFrame ++ voltageFrame).length) := by decide

/-- V7, V8, V10 and V19. -/
theorem witness_TransactionOutcomeAtTimeout :
    ((fresh .zero [] 1).FreshReceive ∧ lockIndexFrom 0 [] = none ∧ (fresh .zero [] 1).inputs = receiveTurns (0 + 1) ++ []) ∧
    ((fresh .zero [0x6F] 2).FreshReceive ∧ lockIndexFrom 0 [0x6F] = none) ∧
    ((fresh .zero [0xCA, 0xCB, 0x11, 0x00] 5).FreshReceive ∧ lockIndexFrom 0 [0xCA, 0xCB, 0x11, 0x00] = some 0 ∧
      [0xCA, 0xCB, 0x11, 0x00].length < 0 + 8) ∧
    ((fresh .two (0xCA :: voltageFrame) 10).FreshReceive ∧ lockIndexFrom 2 (0xCA :: voltageFrame) = none) := by decide

theorem witness_ReceiveTurnsEndTransaction : (fresh .zero [0xCA, 0xCB] 3).Inv ∧ (fresh .zero [0xCA, 0xCB] 3).sc ≠ .idle ∧
    (fresh .zero [0xCA, 0xCB] 3).inputs = receiveTurns ((fresh .zero [0xCA, 0xCB] 3).rxq.length + 1) ++ [] :=
  ⟨by constructor <;> decide, by decide, by decide⟩

theorem witness_ArrivalAndReceiveCommute : (onTurn .seek [0xCA]).rxq ≠ [] := by decide

theorem witness_FastPathAgreesWithDec :
    ({ State.reset with
        rxq := voltageFrame ++ [0x99], inputs := .word .host [0x03, 0x11] :: (receiveTurns 8 ++ []) } : State).sc = .idle ∧
    voltageFrame.length = 8 ∧ voltageFrame.take 2 = [0xCA, 0xCB] := by decide

/-- The two states differ in `fb[7]` and in `res_payload`. -/
theorem witness_MeaninglessBytesNeverMatter :
    (sevenHeld 0xCF).Inv ∧
    (sevenHeld 0xCF).Agree { sevenHeld 0xCF with
      fb := #v[0xCA, 0xCB, 0x11, 0x00, 0x03, 0xE8, 0xCE, 0x77], resPayload := 0x123456 } ∧
    sevenHeld 0xCF ≠ { sevenHeld 0xCF with
      fb := #v[0xCA, 0xCB, 0x11, 0x00, 0x03, 0xE8, 0xCE, 0x77], resPayload := 0x123456 } ∧
    ∃ t, step (sevenHeld 0xCF) = .next t :=
  ⟨sevenHeld_inv, by unfold State.Agree; decide, by decide, _, rfl⟩

end Sys2Proof.Tests
end

/-! The statements of 00_scope.md: what one step carries out (R10, R76), and that no run changes SCAN_ORIGIN (R5, R20). -/

namespace Sys2Proof.Machine

/-! ## What a step carries out -/

/-- A step with nothing scheduled carries the free turn out. -/
theorem step_of_nil (s : State) (h : s.inputs = []) :
    step s = deliver (Config.freeInput s.draws) { s with draws := s.draws + 1 } := by
  unfold step takeTurn
  rw [s.nextInput_of_nil h, s.popInput_of_nil h]

/-- A word that decodes runs its instruction, with the bytes after the word back at the port (R84). -/
theorem runWord_of_decode (p : Port) (bytes rest : List Byte) (i : Instr) (s : State)
    (hd : decode p bytes = .ok (i, rest)) : runWord p bytes s = exec i (s.returnRest p rest) := by
  unfold runWord
  rw [hd]

/-- A step under a scheduled word that decodes runs the word's instruction. -/
theorem step_of_word (s : State) (p : Port) (bytes rest : List Byte) (i : Instr) (more : List Input)
    (h : s.inputs = .word p bytes :: more) (hd : decode p bytes = .ok (i, rest)) :
    step s = exec i (State.returnRest p rest { s with inputs := more }) :=
  calc step s
    _ = runWord p bytes { s with inputs := more } := step_of_inputs s _ more h
    _ = exec i (State.returnRest p rest { s with inputs := more }) := runWord_of_decode p bytes rest i _ hd

/-- Settles O5: the step takes the scheduled word, and `returnRest` schedules the bytes after it. -/
theorem stepRunsDecodedInstruction : Obligations.StepRunsDecodedInstruction := by
  intro s p bytes rest i more h hd
  exact step_of_word s p bytes rest i more h hd

/-- Settles O8: an empty schedule makes the free turn the next one, and its use is counted in `draws`. -/
theorem stepDrawsFreeTurn : Obligations.StepDrawsFreeTurn := step_of_nil

/-! ## SCAN_ORIGIN is kept -/

theorem ExecEffect.cfg_eq {i : Instr} {s t : State} (e : ExecEffect i s t) : t.cfg = s.cfg := by
  cases e with
  | refuse c => exact s.refuse_cfg c
  | send cmd p0 p1 => exact s.sendFrame_cfg cmd p0 p1
  | record raw exp => exact s.record_cfg _
  | start exp => exact s.startReceive_cfg exp
  | exchange cmd p0 p1 => simp
  | reset => exact s.resetRegs_cfg
  | arrive => exact s.arriveAll_cfg _

theorem ByteEffect.cfg_eq {b : Byte} {u t : State} (e : ByteEffect b u t) : t.cfg = u.cfg := by
  cases e with
  | seekHit | confirmHit => exact u.storeByte_cfg _ _ _ _
  | seekMiss | confirmAgain | skipMore => exact u.discard_cfg 1
  | collectMore | headMore => exact u.appendByte_cfg b
  | confirmMiss | collectLast | headHit | headMiss | skipLast => simp

theorem ReceiveEffect.cfg_eq {tr : Transport} {s t : State} (e : ReceiveEffect tr s t) : t.cfg = s.cfg := by
  cases e with
  | idle => rfl
  | error | timeout => exact s.finish_cfg _
  | byte b q _ _ _ _ hb => exact hb.cfg_eq.trans (s.takeByte_cfg b)

theorem StepEffect.cfg_eq {s t : State} (e : StepEffect s t) : t.cfg = s.cfg := by
  cases e with
  | word p bytes rest i _ _ _ he =>
    calc t.cfg
      _ = (s.popInput.returnRest p rest).cfg := he.cfg_eq
      _ = s.cfg := by simp
  | receive tr _ _ he => exact he.cfg_eq.trans s.popInput_cfg
  | arrive | flush => simp

/-- Settles O38: every step keeps `cfg`, by its effect, and so does every run, by induction on its steps. -/
theorem parameterNeverChanges : Obligations.ParameterNeverChanges := by
  intro n s t h
  have hstep (u v : State) (hu : u.cfg = s.cfg) (huv : step u = .next v) : v.cfg = s.cfg :=
    (step_effect u v huv).cfg_eq.trans hu
  exact run_induction (fun u => u.cfg = s.cfg) hstep n s t rfl h

end Sys2Proof.Machine

/-! The statements of 10_state.md: the invariant every step keeps (R21 to R34), agreement up to bytes without meaning
(R24, R26, R31, R237), the frames of `res_payload` and the streams (R31, R39), and the host's views (R35, R36). -/

namespace Sys2Proof.Machine

/-! ## What the decoder reads back (R70 to R84) -/

section
variable {i : Instr} {bytes rest : List Byte}

/-- An op byte is its fixed high bits followed by its free low bits (R82). -/
theorem opByte_eq_append {n m : Nat} {op : BitVec (n + m)} {hi : BitVec n} (h : op.extractLsb' m n = hi) :
    hi ++ op.extractLsb' 0 m = op := h ▸ BitVec.extractLsb'_append_extractLsb'

/-- A reserved op byte is the whole word of the host instruction it is read as (R82). -/
theorem decodeReserved_exact {op : Byte} (h : decodeReserved op = some i) : i.port = .host ∧ encode i = [op] := by
  unfold decodeReserved at h
  obtain ⟨hop, ⟨⟩⟩ | ⟨-, h⟩ := ite_eq_iff.1 h
  · exact ⟨rfl, List.singleton_inj.2 hop.symm⟩
  obtain ⟨hop, ⟨⟩⟩ | ⟨-, h⟩ := ite_eq_iff.1 h
  · exact ⟨rfl, List.singleton_inj.2 hop.symm⟩
  obtain ⟨hop, ⟨⟩⟩ | ⟨-, h⟩ := ite_eq_iff.1 h
  · exact ⟨rfl, List.singleton_inj.2 (opByte_eq_append (n := 7) (m := 1) hop)⟩
  obtain ⟨hop, ⟨⟩⟩ | ⟨-, h⟩ := ite_eq_iff.1 h
  · exact ⟨rfl, List.singleton_inj.2 (opByte_eq_append (n := 6) (m := 2) hop)⟩
  obtain ⟨hop, ⟨⟩⟩ | ⟨-, h⟩ := ite_eq_iff.1 h
  · exact ⟨rfl, List.singleton_inj.2 (opByte_eq_append (n := 7) (m := 1) hop)⟩
  obtain ⟨hop, ⟨⟩⟩ | ⟨-, h⟩ := ite_eq_iff.1 h
  · exact ⟨rfl, List.singleton_inj.2 hop.symm⟩
  obtain ⟨hop, ⟨⟩⟩ | ⟨-, h⟩ := ite_eq_iff.1 h
  · exact ⟨rfl, List.singleton_inj.2 (opByte_eq_append (n := 4) (m := 4) hop)⟩
  obtain ⟨hop, ⟨⟩⟩ | ⟨-, h⟩ := ite_eq_iff.1 h
  · exact ⟨rfl, List.singleton_inj.2 (opByte_eq_append (n := 3) (m := 5) hop)⟩
  obtain ⟨hop, ⟨⟩⟩ | ⟨-, h⟩ := ite_eq_iff.1 h
  · exact ⟨rfl, List.singleton_inj.2 (opByte_eq_append (n := 2) (m := 6) hop)⟩
  obtain ⟨hop, ⟨⟩⟩ | ⟨-, h⟩ := ite_eq_iff.1 h
  · exact ⟨rfl, List.singleton_inj.2 (opByte_eq_append (n := 1) (m := 7) hop)⟩
  cases h

theorem decodeDec_exact (h : decodeDec bytes = .ok (i, rest)) :
    i.port = .host ∧ encode i ++ rest = 0x02 :: bytes := by
  unfold decodeDec at h
  split at h
  · split_ifs at h <;> cases h <;> simp [Instr.port, encode]
  · cases h

theorem decodeHost_exact (h : decodeHost bytes = .ok (i, rest)) : i.port = .host ∧ encode i ++ rest = bytes := by
  unfold decodeHost at h
  split at h
  · cases h
  next op t =>
    split_ifs at h with h1 h2 h3 h4 hF
    · split at h
      · cases h; simp [Instr.port, encode, h1]
      · cases h
    · exact h2 ▸ decodeDec_exact h
    · split at h
      · cases h; simp [Instr.port, encode, h3]
      · cases h
    · split at h
      · cases h; simp [Instr.port, encode, h4]
      · cases h
    · cases h; simp [Instr.port, encode, hF]
    · split at h
      next hd =>
        cases h
        obtain ⟨hp, he⟩ := decodeReserved_exact hd
        simp [hp, he]
      · cases h

theorem codeByte_of_codeOfByte {b : Byte} {c : CommandCode} (h : codeOfByte b = some c) : codeByte c = b := by
  simpa using List.find?_some h

theorem outInstr_exact (cmd p0 p1 : Byte) :
    (outInstr cmd p0 p1).port = .lineOut ∧ encode (outInstr cmd p0 p1) = outWord cmd p0 p1 := by
  unfold outInstr
  cases h : codeOfByte cmd with
  | none => exact ⟨rfl, rfl⟩
  | some c =>
    rw [← codeByte_of_codeOfByte h]
    cases c <;> exact ⟨rfl, rfl⟩

theorem inInstr_exact (echo p0 p1 p2 : Byte) :
    (inInstr echo p0 p1 p2).port = .lineIn ∧ encode (inInstr echo p0 p1 p2) = inWord echo p0 p1 p2 := by
  unfold inInstr
  cases h : codeOfByte echo with
  | none => exact ⟨rfl, rfl⟩
  | some c =>
    rw [← codeByte_of_codeOfByte h]
    cases c <;> exact ⟨rfl, rfl⟩

theorem decodeOut_exact (h : decodeOut bytes = .ok (i, rest)) :
    i.port = .lineOut ∧ encode i = bytes ∧ rest = [] := by
  unfold decodeOut at h
  split at h
  · split_ifs at h with hw
    obtain ⟨rfl, rfl, rfl⟩ := hw
    cases h
    obtain ⟨hp, he⟩ := outInstr_exact _ _ _
    exact ⟨hp, he, rfl⟩
  · cases h

theorem decodeIn_exact (h : decodeIn bytes = .ok (i, rest)) :
    i.port = .lineIn ∧ encode i = bytes ∧ rest = [] := by
  unfold decodeIn at h
  split at h
  · split_ifs at h with hw
    cases h
    exact ⟨rfl, by rw [hw]; rfl, rfl⟩
  · split_ifs at h with hw
    obtain ⟨rfl, rfl, rfl, rfl⟩ := hw
    cases h
    obtain ⟨hp, he⟩ := inInstr_exact _ _ _ _
    exact ⟨hp, he, rfl⟩
  · cases h

/-- Bytes that decode at a port are the word of an instruction of that port, then the bytes handed back (R84). -/
theorem decode_exact {p : Port} (h : decode p bytes = .ok (i, rest)) : i.port = p ∧ encode i ++ rest = bytes := by
  cases p with
  | host => exact decodeHost_exact h
  | lineOut =>
    obtain ⟨hp, he, rfl⟩ := decodeOut_exact h
    exact ⟨hp, by simpa using he⟩
  | lineIn =>
    obtain ⟨hp, he, rfl⟩ := decodeIn_exact h
    exact ⟨hp, by simpa using he⟩

/-- A wire word takes all its bytes (R71 to R73). -/
theorem decode_wire_rest {p : Port} (hp : p ≠ .host) (h : decode p bytes = .ok (i, rest)) : rest = [] := by
  cases p with
  | host => exact absurd rfl hp
  | lineOut =>
    obtain ⟨_, _, hr⟩ := decodeOut_exact h
    exact hr
  | lineIn =>
    obtain ⟨_, _, hr⟩ := decodeIn_exact h
    exact hr

end

/-! ## The invariant in three parts: the engine state's own rule, the counters, the result registers -/

/-- What the invariant says about the frame buffer and the counters in the engine state `c` (R21, R25, R134 to R137). -/
def State.PhaseInv (s : State) : ScState → Prop
  | .idle => s.fbLen.toNat ≤ 8
  | .seek => s.fbLen.toNat = 0
  | .confirm => s.fbLen.toNat = 1 ∧ s.fb[0] = 0xCA
  | .collect => (2 ≤ s.fbLen.toNat ∧ s.fbLen.toNat ≤ 7) ∧ s.fb[0] = 0xCA ∧ s.fb[1] = 0xCB
  | .head => s.fbLen.toNat ≤ 1 ∧ s.cfg.scanOrigin ≠ .zero ∧ s.rxCount.toNat = s.fbLen.toNat ∧ s.discCount.toNat = 0
  | .skip => s.fbLen.toNat = 0 ∧ s.cfg.scanOrigin = .eight ∧ 2 ≤ s.rxCount.toNat ∧ s.rxCount.toNat ≤ 7

/-- Every consumed byte is discarded and counted, or held in `fb`, until the counter saturates (R145). -/
def State.Balanced (s : State) : Prop :=
  s.rxCount.toNat < 2 ^ 32 - 1 → s.rxCount.toNat = s.discCount.toNat + s.fbLen.toNat

/-- The result registers and the misuse record fit together and fit the engine state (R29, R30, R33, R34). -/
structure State.Recorded (s : State) : Prop where
  reason : s.resReason = .none ↔ s.resKind ≠ .frameMismatch
  kindBusy : s.sc ≠ .idle → s.resKind = .none
  cause : s.misuseCause = .none ↔ s.misuse = false

section
variable {s t : State}

theorem State.Inv.phase (h : s.Inv) {c : ScState} (hc : s.sc = c) : s.PhaseInv c := by
  cases c with
  | idle => exact h.lenIdle hc
  | seek => exact h.lenSeek hc
  | confirm => exact ⟨h.lenConfirm hc, h.headerConfirm hc⟩
  | collect => exact ⟨h.lenCollect hc, h.headerCollect hc⟩
  | head => exact ⟨h.lenHead hc, h.originHead hc, h.countHead hc⟩
  | skip => exact ⟨h.lenSkip hc, h.originSkip hc, h.countSkip hc⟩

/-- The three parts together are the invariant. -/
theorem State.Inv.of_parts (hp : s.PhaseInv s.sc) (hb : s.Balanced) (hr : s.Recorded) : s.Inv :=
  have phase {c : ScState} (hc : s.sc = c) : s.PhaseInv c := hc ▸ hp
  { lenIdle := phase
    lenSeek := phase
    lenConfirm := fun hc => (phase hc).1
    lenCollect := fun hc => (phase hc).1
    lenHead := fun hc => (phase hc).1
    lenSkip := fun hc => (phase hc).1
    headerConfirm := fun hc => (phase hc).2
    headerCollect := fun hc => (phase hc).2
    originHead := fun hc => (phase hc).2.1
    originSkip := fun hc => (phase hc).2.1
    countHead := fun hc => (phase hc).2.2
    countSkip := fun hc => (phase hc).2.2
    count := hb
    reason := hr.reason
    kindBusy := hr.kindBusy
    cause := hr.cause }

theorem State.Inv.fbLen_le (h : s.Inv) : s.fbLen.toNat ≤ 8 := by
  cases hc : s.sc with
  | idle => exact h.lenIdle hc
  | seek => have := h.lenSeek hc; omega
  | confirm => have := h.lenConfirm hc; omega
  | collect => have := h.lenCollect hc; omega
  | head => have := h.lenHead hc; omega
  | skip => have := h.lenSkip hc; omega

/-! ## What each operation keeps of it -/

theorem State.Inv.popInput (h : s.Inv) : s.popInput.Inv := by
  unfold State.popInput
  split <;> exact { h with }

theorem State.Inv.returnRest (h : s.Inv) (p : Port) (rest : List Byte) : (s.returnRest p rest).Inv := { h with }

theorem State.Inv.arriveAll (h : s.Inv) (bs : List Byte) : (s.arriveAll bs).Inv := { h with }

theorem State.Inv.flush (h : s.Inv) (n : Nat) : (s.flush n).Inv := { h with }

theorem State.Inv.sendFrame (h : s.Inv) (cmd p0 p1 : Byte) : (s.sendFrame cmd p0 p1).Inv := { h with }

/-- A refusal keeps the first cause, or records its own where none was (R34). -/
theorem State.Inv.refuse (h : s.Inv) {c : MisuseCause} (hc : c ≠ .none) : (s.refuse c).Inv :=
  { h with
    cause := by
      cases hm : s.misuse with
      | false => simp [hm, hc]
      | true => simp [hm, h.cause] }

theorem State.Inv.record (h : s.Inv) (hi : s.sc = .idle) (v : Verdict) : (s.record v).Inv :=
  { h with
    reason := v.reason_eq_none_iff
    kindBusy := fun hb => absurd hi hb }

/-- The end of a transaction: the outcome is recorded and every length is admitted in IDLE (R25, R140). -/
theorem State.finish_inv (hl : s.fbLen.toNat ≤ 8) (hb : s.Balanced) (hm : s.misuseCause = .none ↔ s.misuse = false)
    (v : Verdict) : (s.finish v).Inv :=
  .of_parts hl hb ⟨v.reason_eq_none_iff, fun hi => absurd rfl hi, hm⟩

/-- A transaction starts with nothing held and nothing counted, in SEEK or HEAD as the parameter says (R130). -/
theorem State.Inv.startReceive (h : s.Inv) (exp : Byte) : (s.startReceive exp).Inv := by
  refine .of_parts ?_ (fun _ => rfl) ⟨by simp, fun _ => rfl, h.cause⟩
  cases ho : s.cfg.scanOrigin <;> simp [State.PhaseInv, startState, ho]

theorem State.resetRegs_inv (s : State) : s.resetRegs.Inv :=
  .of_parts (Nat.zero_le 8) (fun _ => rfl) ⟨by simp, fun _ => rfl, by simp⟩

theorem ExecEffect.inv {i : Instr} (e : ExecEffect i s t) (h : s.Inv) : t.Inv := by
  cases e with
  | refuse c hc => exact h.refuse hc
  | send cmd p0 p1 => exact h.sendFrame cmd p0 p1
  | record raw exp hi => exact h.record hi _
  | start exp => exact h.startReceive exp
  | exchange cmd p0 p1 => exact (h.sendFrame cmd p0 p1).startReceive cmd
  | reset => exact s.resetRegs_inv
  | arrive => exact h.arriveAll _

/-! ## A byte taken by the engine -/

/-- One more byte consumed, and one more discarded or held, keeps the balance (R132, R145). -/
theorem State.Balanced.of_one_more (h : s.Balanced) (hr : t.rxCount = satAdd32 s.rxCount 1)
    (hs : s.discCount.toNat + s.fbLen.toNat + 1 < 2 ^ 32 →
      t.discCount.toNat + t.fbLen.toNat = s.discCount.toNat + s.fbLen.toNat + 1) : t.Balanced := by
  intro hlt
  rw [hr] at hlt ⊢
  have hx := satAdd32_exact s.rxCount 1 hlt
  have hold := h (by omega)
  have := hs (by omega)
  omega

theorem ByteEffect.rxCount_eq {b : Byte} {u : State} (e : ByteEffect b u t) : t.rxCount = u.rxCount := by
  cases e <;> rfl

/-- Each rule discards or holds the byte it was given; the bytes it drops from `fb` it discards (R133 to R137). -/
theorem ByteEffect.balanced {b : Byte} (e : ByteEffect b (s.takeByte b) t) (h : s.Inv) : t.Balanced := by
  refine State.Balanced.of_one_more h.count e.rxCount_eq fun hlt => ?_
  have hd1 := satAdd32_toNat s.discCount 1
  have hd2 := satAdd32_toNat s.discCount 2
  have hn := fbLen_add_one_toNat s.fbLen
  cases e with
  | seekHit hc =>
    have := h.lenSeek hc
    simp only [State.storeByte_discCount, State.storeByte_fbLen, State.takeByte_discCount,
      BitVec.ofNat_eq_ofNat, BitVec.toNat_ofNat]
    omega
  | seekMiss | confirmAgain | skipMore | skipLast =>
    simp only [State.goto_discCount, State.goto_fbLen, State.discard_discCount, State.discard_fbLen,
      State.takeByte_discCount, State.takeByte_fbLen]
    omega
  | confirmHit hc =>
    have := h.lenConfirm hc
    simp only [State.storeByte_discCount, State.storeByte_fbLen, State.takeByte_discCount,
      BitVec.ofNat_eq_ofNat, BitVec.toNat_ofNat]
    omega
  | confirmMiss hc =>
    have := h.lenConfirm hc
    simp only [State.dropFrame_discCount, State.dropFrame_fbLen, State.discard_discCount, State.takeByte_discCount,
      BitVec.ofNat_eq_ofNat, BitVec.toNat_ofNat]
    omega
  | collectMore hc | collectLast hc =>
    have := h.lenCollect hc
    simp only [State.finish_discCount, State.finish_fbLen, State.appendByte_discCount, State.appendByte_fbLen,
      State.takeByte_discCount, State.takeByte_fbLen]
    omega
  | headMore hc | headHit hc =>
    have := h.lenHead hc
    simp only [State.goto_discCount, State.goto_fbLen, State.appendByte_discCount, State.appendByte_fbLen,
      State.takeByte_discCount, State.takeByte_fbLen]
    omega
  | headMiss hc hl =>
    rw [State.takeByte_fbLen] at hl
    simp only [State.dropFrame_discCount, State.dropFrame_fbLen, State.discard_discCount, State.appendByte_discCount,
      State.takeByte_discCount, BitVec.ofNat_eq_ofNat, BitVec.toNat_ofNat]
    omega

/-- A byte appended behind the header leaves the header in place (R135). -/
theorem State.appendByte_header (s : State) (b : Byte) (hl : 2 ≤ s.fbLen.toNat) :
    (s.appendByte b).fb[0] = s.fb[0] ∧ (s.appendByte b).fb[1] = s.fb[1] := by
  constructor <;> exact Vector.getElem_setIfInBounds_ne _ (by omega)

theorem State.PhaseInv.at_sc {c : ScState} (hp : t.PhaseInv c) (hc : t.sc = c) : t.PhaseInv t.sc := hc ▸ hp

/-- HEAD without a header goes on to SEEK (SCAN_ORIGIN 2) or to SKIP with two bytes consumed (SCAN_ORIGIN 8) (R136). -/
theorem phaseInv_afterHead (ho : t.cfg.scanOrigin ≠ .zero) (hl : t.fbLen = 0) (hr : t.rxCount.toNat = 2) :
    t.PhaseInv (afterHead t.cfg.scanOrigin) := by
  cases hc : t.cfg.scanOrigin with
  | zero => exact absurd hc ho
  | two => simp [afterHead, State.PhaseInv, hl]
  | eight => simp [afterHead, State.PhaseInv, hl, hr, hc]

/-- The state each rule leads to has what that engine state asks of `fb` and of the counters (R133 to R137). -/
theorem ByteEffect.phase {b : Byte} (e : ByteEffect b (s.takeByte b) t) (h : s.Inv) : t.PhaseInv t.sc := by
  have hn := fbLen_add_one_toNat s.fbLen
  have hr := satAdd32_toNat s.rxCount 1
  cases e with
  | seekHit => exact ⟨rfl, by simp⟩
  | seekMiss hc => exact .at_sc (c := .seek) (h.lenSeek hc) hc
  | confirmHit hc => exact ⟨by simp, by simpa using h.headerConfirm hc, by simp⟩
  | confirmAgain hc => exact .at_sc (c := .confirm) ⟨h.lenConfirm hc, h.headerConfirm hc⟩ hc
  | confirmMiss => rfl
  | collectMore hc hl =>
    obtain ⟨hlo, _⟩ := h.lenCollect hc
    obtain ⟨hca, hcb⟩ := h.headerCollect hc
    obtain ⟨h0, h1⟩ := (s.takeByte b).appendByte_header b hlo
    rw [State.takeByte_fbLen] at hl
    refine .at_sc (c := .collect) ⟨?_, h0.trans hca, h1.trans hcb⟩ hc
    simp only [State.appendByte_fbLen, State.takeByte_fbLen]
    omega
  | collectLast _ hl =>
    rw [State.takeByte_fbLen] at hl
    have h8 : (s.fbLen + 1).toNat ≤ 8 := by omega
    exact h8
  | headMore hc _ h1 =>
    have hlen := h.lenHead hc
    obtain ⟨hrx, hdisc⟩ := h.countHead hc
    rw [State.takeByte_fbLen] at h1
    refine .at_sc (c := .head) ⟨?_, h.originHead hc, ?_, hdisc⟩ hc
    · simp only [State.appendByte_fbLen, State.takeByte_fbLen]
      omega
    · simp only [State.appendByte_fbLen, State.appendByte_rxCount, State.takeByte_fbLen, State.takeByte_rxCount]
      omega
  | headHit _ hl hh =>
    rw [State.takeByte_fbLen] at hl
    refine ⟨?_, hh⟩
    simp only [State.goto_fbLen, State.appendByte_fbLen, State.takeByte_fbLen]
    omega
  | headMiss hc hl =>
    obtain ⟨hrx, _⟩ := h.countHead hc
    rw [State.takeByte_fbLen] at hl
    refine phaseInv_afterHead (h.originHead hc) rfl ?_
    simp only [State.dropFrame_rxCount, State.discard_rxCount, State.appendByte_rxCount, State.takeByte_rxCount]
    omega
  | skipMore hc hx =>
    obtain ⟨hlo, hhi⟩ := h.countSkip hc
    have ho := h.originSkip hc
    simp only [State.takeByte_rxCount, State.takeByte_cfg, ho, originValue] at hx
    refine .at_sc (c := .skip) ⟨h.lenSkip hc, ho, ?_⟩ hc
    simp only [State.discard_rxCount, State.takeByte_rxCount]
    omega
  | skipLast hc => exact h.lenSkip hc

theorem ByteEffect.recorded {b : Byte} {u : State} (e : ByteEffect b u t) (h : u.Recorded) : t.Recorded := by
  obtain ⟨hreason, hkind, hcause⟩ := h
  cases e with
  | collectLast => exact ⟨Verdict.reason_eq_none_iff _, fun hi => absurd rfl hi, hcause⟩
  | seekHit hc | seekMiss hc | confirmHit hc | confirmAgain hc | confirmMiss hc | collectMore hc | headMore hc
  | headHit hc | headMiss hc | skipMore hc | skipLast hc =>
    exact ⟨hreason, fun _ => hkind (by simp [hc]), hcause⟩

theorem ByteEffect.inv {b : Byte} (e : ByteEffect b (s.takeByte b) t) (h : s.Inv) : t.Inv :=
  .of_parts (e.phase h) (e.balanced h) (e.recorded ⟨h.reason, h.kindBusy, h.cause⟩)

theorem ReceiveEffect.inv {tr : Transport} (e : ReceiveEffect tr s t) (h : s.Inv) : t.Inv := by
  cases e with
  | idle => exact h
  | error | timeout => exact State.finish_inv h.fbLen_le h.count h.cause _
  | byte b q _ _ _ _ hb => exact hb.inv h

theorem StepEffect.inv (e : StepEffect s t) (h : s.Inv) : t.Inv := by
  cases e with
  | word p bytes rest i _ _ _ he => exact he.inv (h.popInput.returnRest p rest)
  | arrive b => exact h.popInput.arriveAll [b]
  | receive tr _ _ he => exact he.inv h.popInput
  | flush n => exact h.popInput.flush n

end

/-- Settles O39: each effect of a step keeps the invariant. -/
theorem stepKeepsInvariant : Obligations.StepKeepsInvariant := by
  intro s t h hstep
  exact (step_effect s t hstep).inv h

/-- Settles O41: the one fault needs eight held bytes in COLLECT or HEAD, where the invariant holds fewer (R25). -/
theorem invariantExcludesFaults : Obligations.InvariantExcludesFaults := by
  intro s r h hf
  obtain ⟨_, hc | hc, hl⟩ := step_fault s r hf
  · have := h.lenCollect hc
    omega
  · have := h.lenHead hc
    omega

/-! ## Two states that agree up to bytes without meaning (R24, R26, R31, R237) -/

/-- Two answers agree when both are next states that agree, or both are the same stop. -/
def OutcomesAgree : Host.Outcome State Fault Refusal → Host.Outcome State Fault Refusal → Prop
  | .next s, .next t => s.Agree t
  | .fault r, .fault r' => r = r'
  | .refused r, .refused r' => r = r'
  | _, _ => False

/-- An operation whose result depends on bytes without meaning only in bytes without meaning. -/
def RespectsAgree (op : State → State) : Prop := ∀ ⦃s t : State⦄, s.Agree t → (op s).Agree (op t)

/-- An answer that agrees with a next state is a next state that agrees with it. -/
theorem OutcomesAgree.exists_next {s : State} {o : Host.Outcome State Fault Refusal} (h : OutcomesAgree (.next s) o) :
    ∃ t, o = .next t ∧ s.Agree t := by
  cases o with
  | next t => exact ⟨t, rfl, h⟩
  | fault | refused => exact h.elim

/-! ## What agreeing states share -/

section
variable {s t : State}

theorem State.Agree.refl (s : State) : s.Agree s := ⟨rfl, fun _ _ => rfl, fun _ => rfl, fun _ => rfl⟩

/-- The second state is the first with other bytes without meaning. -/
theorem State.Agree.exists_fields (h : s.Agree t) :
    ∃ (fb : Vector Byte 8) (b : Byte) (p : Payload), t = { s with fb := fb, firstB := b, resPayload := p } ∧
      (∀ i : Fin 8, i.val < s.fbLen.toNat → s.fb[i] = fb[i]) ∧ (s.rxCount ≠ 0 → s.firstB = b) ∧
      (s.resKind = .ok → s.resPayload = p) :=
  ⟨t.fb, t.firstB, t.resPayload, h⟩

/-- What is read from the other fields is the same. -/
theorem State.Agree.eq_of {α : Type} (f : State → α)
    (hf : ∀ (s : State) fb b p, f { s with fb := fb, firstB := b, resPayload := p } = f s) (h : s.Agree t) :
    f t = f s := by
  obtain ⟨fb, b, p, rfl, _⟩ := h.exists_fields
  exact hf s fb b p

theorem State.Agree.sc_eq (h : s.Agree t) : t.sc = s.sc := h.eq_of State.sc fun _ _ _ _ => rfl
theorem State.Agree.expR_eq (h : s.Agree t) : t.expR = s.expR := h.eq_of State.expR fun _ _ _ _ => rfl
theorem State.Agree.fbLen_eq (h : s.Agree t) : t.fbLen = s.fbLen := h.eq_of State.fbLen fun _ _ _ _ => rfl
theorem State.Agree.rxCount_eq (h : s.Agree t) : t.rxCount = s.rxCount := h.eq_of State.rxCount fun _ _ _ _ => rfl
theorem State.Agree.rxq_eq (h : s.Agree t) : t.rxq = s.rxq := h.eq_of State.rxq fun _ _ _ _ => rfl
theorem State.Agree.cfg_eq (h : s.Agree t) : t.cfg = s.cfg := h.eq_of State.cfg fun _ _ _ _ => rfl
theorem State.Agree.nextInput_eq (h : s.Agree t) : t.nextInput = s.nextInput :=
  h.eq_of State.nextInput fun _ _ _ _ => rfl

/-- The held bytes are the same (R24). -/
theorem State.Agree.fb_getElem (h : s.Agree t) (i : Nat) (hi : i < 8) (hl : i < s.fbLen.toNat) : t.fb[i] = s.fb[i] :=
  (h.2.1 ⟨i, hi⟩ hl).symm

/-- A full frame buffer is the same. -/
theorem State.Agree.fb_eq_of_full (h : s.Agree t) (hl : 8 ≤ s.fbLen.toNat) : t.fb = s.fb :=
  Vector.ext fun i hi => h.fb_getElem i hi (by omega)

/-- The verdict of a `Timeout` reads `first_b` only where a byte was consumed (R26, R138). -/
theorem State.Agree.timeoutVerdict_eq (h : s.Agree t) :
    timeoutVerdict t.rxCount t.firstB = timeoutVerdict s.rxCount s.firstB := by
  obtain ⟨fb, b, p, rfl, _, hfirst, _⟩ := h.exists_fields
  by_cases hr : s.rxCount = 0
  · simp [timeoutVerdict, hr]
  · simp [hfirst hr]

end

/-! ## The operations respect agreement -/

/-- An operation on other registers, which passes the bytes without meaning on and decides nothing by them. -/
theorem respects_of_frame {op : State → State}
    (hpass : ∀ (s : State) fb b p, op { s with fb := fb, firstB := b, resPayload := p } =
      { op s with fb := fb, firstB := b, resPayload := p })
    (hkeep : ∀ s : State, (op s).fb = s.fb ∧ (op s).fbLen = s.fbLen ∧ (op s).firstB = s.firstB ∧
      (op s).rxCount = s.rxCount ∧ (op s).resKind = s.resKind ∧ (op s).resPayload = s.resPayload) :
    RespectsAgree op := by
  intro s t h
  obtain ⟨fb, b, p, rfl, hmeant⟩ := h.exists_fields
  obtain ⟨hfb, hlen, hfirst, hcount, hkind, hpay⟩ := hkeep s
  rw [hpass s fb b p]
  refine ⟨rfl, ?_⟩
  rw [hfb, hlen, hfirst, hcount, hkind, hpay]
  exact hmeant

theorem respects_popInput : RespectsAgree State.popInput := by
  apply respects_of_frame
  · intro s fb b p
    unfold State.popInput
    cases s.inputs <;> rfl
  · simp

theorem respects_returnRest (p : Port) (rest : List Byte) : RespectsAgree (State.returnRest p rest) :=
  respects_of_frame (fun _ _ _ _ => rfl) (by simp)

theorem respects_refuse (c : MisuseCause) : RespectsAgree (State.refuse c) :=
  respects_of_frame (fun _ _ _ _ => rfl) (by simp)

theorem respects_sendFrame (cmd p0 p1 : Byte) : RespectsAgree (State.sendFrame cmd p0 p1) :=
  respects_of_frame (fun _ _ _ _ => rfl) (by simp)

theorem respects_arriveAll (bs : List Byte) : RespectsAgree (State.arriveAll bs) :=
  respects_of_frame (fun _ _ _ _ => rfl) (by simp)

theorem respects_flush (n : Nat) : RespectsAgree (State.flush n) :=
  respects_of_frame (fun _ _ _ _ => rfl) (by simp)

theorem respects_discard (k : Nat) : RespectsAgree (State.discard k) :=
  respects_of_frame (fun _ _ _ _ => rfl) (by simp)

theorem respects_goto (c : ScState) : RespectsAgree (State.goto c) :=
  respects_of_frame (fun _ _ _ _ => rfl) (by simp)

/-- With no byte held, no byte of `fb` has a meaning. -/
theorem respects_dropFrame (c : ScState) : RespectsAgree (State.dropFrame c) := by
  intro s t h
  obtain ⟨fb, b, p, rfl, _, hmeant⟩ := h.exists_fields
  exact ⟨rfl, fun i hi => absurd hi (Nat.not_lt_zero i), hmeant⟩

/-- With nothing consumed, held or decided, none of the three has a meaning (R130). -/
theorem respects_startReceive (exp : Byte) : RespectsAgree (State.startReceive exp) := by
  intro s t h
  obtain ⟨fb, b, p, rfl, _⟩ := h.exists_fields
  exact ⟨rfl, fun i hi => absurd hi (Nat.not_lt_zero i), fun hr => absurd rfl hr, fun hk => by simp at hk⟩

theorem respects_resetRegs : RespectsAgree State.resetRegs := by
  intro s t h
  obtain ⟨fb, b, p, rfl, _⟩ := h.exists_fields
  exact .refl _

/-- The payload of an outcome OK is the outcome's own. -/
theorem Verdict.payloadOr_eq_of_ok {v : Verdict} (h : v.kind = .ok) (p q : Payload) :
    v.payloadOr p = v.payloadOr q := by
  cases v with
  | ok payload => rfl
  | noResponse | ackOnly | short | header | footer | echo | transportError => simp [Verdict.kind] at h

theorem respects_record (v : Verdict) : RespectsAgree (State.record v) := by
  intro s t h
  obtain ⟨fb, b, p, rfl, hfb, hfirst, _⟩ := h.exists_fields
  exact ⟨rfl, hfb, hfirst, fun hk => Verdict.payloadOr_eq_of_ok hk _ _⟩

theorem respects_finish (v : Verdict) : RespectsAgree (State.finish v) :=
  fun _ _ h => respects_goto .idle (respects_record v h)

theorem respects_whenIdle {op : State → State} (hop : RespectsAgree op) : RespectsAgree (whenIdle op) := by
  intro s t h
  by_cases hc : s.sc = .idle
  · rw [whenIdle_of_idle op s hc, whenIdle_of_idle op t (h.sc_eq.trans hc)]
    exact hop h
  · rw [whenIdle_of_busy op s hc, whenIdle_of_busy op t (h.sc_eq ▸ hc)]
    exact respects_refuse .busy h

/-- The first byte of a transaction gives `first_b` its meaning (R132). -/
theorem respects_takeByte (b : Byte) : RespectsAgree (State.takeByte b) := by
  intro s t h
  obtain ⟨fb, b', p, rfl, hfb, hfirst, hpay⟩ := h.exists_fields
  refine ⟨rfl, hfb, fun _ => ?_, hpay⟩
  by_cases hr : s.rxCount = 0
  · simp [hr]
  · simp [hfirst hr]

/-- The byte stored at `fb_len` gets its meaning in both (R24). -/
theorem respects_appendByte (b : Byte) : RespectsAgree (State.appendByte b) := by
  intro s t h
  obtain ⟨fb, b', p, rfl, hfb, hrest⟩ := h.exists_fields
  refine ⟨rfl, fun i hi => ?_, hrest⟩
  have hle : (s.fbLen + 1).toNat ≤ s.fbLen.toNat + 1 := by
    rw [BitVec.toNat_add]
    exact Nat.mod_le _ _
  have hlt : i.val < (s.fbLen + 1).toNat := hi
  by_cases he : s.fbLen.toNat = i
  · simp [he]
  · simpa [Vector.getElem_setIfInBounds_ne, he] using hfb i (by omega)

/-- The first byte stored is the only one held (R133). -/
theorem respects_storeByte_zero (b : Byte) (c : ScState) : RespectsAgree (State.storeByte 0 b 1 c) := by
  intro s t h
  obtain ⟨fb, b', p, rfl, hfb, hrest⟩ := h.exists_fields
  refine ⟨rfl, fun i hi => ?_, hrest⟩
  obtain rfl : i = 0 := Fin.ext (Nat.lt_one_iff.1 hi)
  simp

/-- The second byte stored stands behind one already held (R134). -/
theorem State.Agree.storeByte_one {s t : State} (h : s.Agree t) (hl : s.fbLen.toNat = 1) (b : Byte) (c : ScState) :
    (s.storeByte 1 b 2 c).Agree (t.storeByte 1 b 2 c) := by
  obtain ⟨fb, b', p, rfl, hfb, hrest⟩ := h.exists_fields
  refine ⟨rfl, fun i hi => ?_, hrest⟩
  have h0 := hfb 0 (by simp [hl])
  obtain rfl | rfl : i = 0 ∨ i = 1 := by
    have : i.val < 2 := hi
    omega
  · simpa using h0
  · simp

/-! ## The instructions -/

/-- Every instruction is one operation, and it respects agreement. -/
theorem exec_respects (i : Instr) : ∃ op : State → State, (∀ s, exec i s = .next (op s)) ∧ RespectsAgree op := by
  have send (cmd p0 p1 : Byte) := respects_whenIdle (respects_sendFrame cmd p0 p1)
  have reserved := respects_refuse .reservedOp
  cases i with
  | enc cmd p0 p1 => exact ⟨_, fun _ => rfl, send cmd p0 p1⟩
  | dec exp n raw =>
    by_cases hn : inLen < n.toNat
    · exact ⟨_, fun s => if_pos hn, respects_refuse .badLen⟩
    · exact ⟨_, fun s => if_neg hn, respects_whenIdle (respects_record (decFrame (raw.take n.toNat) exp))⟩
  | recv exp => exact ⟨_, fun _ => rfl, respects_whenIdle (respects_startReceive exp)⟩
  | xfer cmd p0 p1 =>
    exact ⟨_, fun _ => rfl, respects_whenIdle fun _ _ h => respects_startReceive cmd (respects_sendFrame cmd p0 p1 h)⟩
  | reset => exact ⟨_, fun _ => rfl, respects_resetRegs⟩
  | reserved00 | reserved05 | reserved06 _ | reserved08 _ | reserved0C _ | reserved0E | reserved10 _ | reserved20 _
  | reserved40 _ | reserved80 _ => exact ⟨_, fun _ => rfl, reserved⟩
  | outFrame _ _ _ | outOutputEnable _ _ | outSetCurrent _ _ | outSetVoltageCutoff _ _ | outSetTimer _ _ | outReset _ _
  | outSetMode _ _ | outOnOff _ _ | outVoltage _ _ | outCurrent _ _ | outElapsedTime _ _ | outCapacityAh _ _
  | outCapacityWh _ _ | outTemperature _ _ | outCurrentLimit _ _ | outVoltageLimit _ _ | outTimer _ _ =>
    exact ⟨_, fun _ => rfl, send _ _ _⟩
  | inFrame _ _ _ _ | inOnOff _ _ _ | inVoltage _ _ _ | inCurrent _ _ _ | inElapsedTime _ _ _ | inCapacityAh _ _ _
  | inCapacityWh _ _ _ | inTemperature _ _ _ | inCurrentLimit _ _ _ | inVoltageLimit _ _ _ | inTimer _ _ _ | ack =>
    exact ⟨_, fun _ => rfl, respects_arriveAll _⟩

section
variable {s t : State}

theorem exec_agree (h : s.Agree t) (i : Instr) : OutcomesAgree (exec i s) (exec i t) := by
  obtain ⟨op, hop, hr⟩ := exec_respects i
  rw [hop, hop]
  exact hr h

theorem runWord_agree (h : s.Agree t) (p : Port) (bytes : List Byte) :
    OutcomesAgree (runWord p bytes s) (runWord p bytes t) := by
  unfold runWord
  split
  · exact exec_agree (respects_returnRest p _ h) _
  · rfl

/-! ## The receive engine -/

theorem seekByte_agree (h : s.Agree t) (b : Byte) : (seekByte b s).Agree (seekByte b t) := by
  unfold seekByte
  split
  · exact respects_storeByte_zero _ _ h
  · exact respects_discard 1 h

theorem confirmByte_agree (h : s.Agree t) (hl : s.fbLen.toNat = 1) (b : Byte) :
    (confirmByte b s).Agree (confirmByte b t) := by
  unfold confirmByte
  split_ifs
  · exact h.storeByte_one hl _ _
  · exact respects_discard 1 h
  · exact respects_dropFrame .seek (respects_discard 2 h)

/-- The validation reads a full frame buffer (R135). -/
theorem respects_collectDone : RespectsAgree collectDone := by
  intro s t h
  unfold collectDone
  rw [h.fbLen_eq, h.expR_eq]
  split
  · rw [h.fb_eq_of_full (by simp [*])]
    exact respects_finish _ h
  · exact h

/-- The header check reads the two bytes held (R136). -/
theorem respects_headDone : RespectsAgree headDone := by
  intro s t h
  unfold headDone
  rw [h.fbLen_eq, h.cfg_eq]
  by_cases hl : s.fbLen = 2
  · rw [if_pos hl, if_pos hl, h.fb_getElem 0 (by omega) (by simp [hl]), h.fb_getElem 1 (by omega) (by simp [hl])]
    split
    · exact respects_goto .collect h
    · exact respects_dropFrame _ (respects_discard 2 h)
  · rw [if_neg hl, if_neg hl]
    exact h

theorem respects_skipByte : RespectsAgree skipByte := by
  intro s t h
  have hd := respects_discard 1 h
  unfold skipByte skipDone
  rw [hd.rxCount_eq, hd.cfg_eq]
  split
  · exact respects_goto .seek hd
  · exact hd

theorem collectByte_agree (h : s.Agree t) (b : Byte) : OutcomesAgree (collectByte b s) (collectByte b t) := by
  unfold collectByte
  rw [h.fbLen_eq]
  split
  · exact respects_collectDone (respects_appendByte b h)
  · rfl

theorem headByte_agree (h : s.Agree t) (b : Byte) : OutcomesAgree (headByte b s) (headByte b t) := by
  unfold headByte
  rw [h.fbLen_eq]
  split
  · exact respects_headDone (respects_appendByte b h)
  · rfl

/-- CONFIRM is the one state whose rule needs the invariant: it stores behind the byte held at index 0 (R134). -/
theorem byteRule_agree (h : s.Agree t) (hl : s.sc = .confirm → s.fbLen.toNat = 1) (b : Byte) :
    OutcomesAgree (byteRule b s) (byteRule b t) := by
  unfold byteRule
  rw [h.sc_eq]
  cases hc : s.sc with
  | idle => exact h
  | seek => exact seekByte_agree h b
  | confirm => exact confirmByte_agree h (hl hc) b
  | collect => exact collectByte_agree h b
  | head => exact headByte_agree h b
  | skip => exact respects_skipByte h

theorem receiveStep_agree (h : s.Agree t) (hs : s.Inv) (tr : Transport) :
    OutcomesAgree (receiveStep tr s) (receiveStep tr t) := by
  by_cases hc : s.sc = .idle
  · simp only [receiveStep, hc, h.sc_eq, if_true]
    exact h
  have hct : t.sc ≠ .idle := h.sc_eq ▸ hc
  cases tr with
  | fails =>
    rw [receiveStep_of_fails s hc, receiveStep_of_fails t hct]
    exact respects_finish .transportError h
  | delivers =>
    cases hq : s.rxq with
    | nil =>
      rw [receiveStep_of_empty s hc hq, receiveStep_of_empty t hct (h.rxq_eq.trans hq), h.timeoutVerdict_eq]
      exact respects_finish _ h
    | cons b q =>
      rw [receiveStep_of_byte s b q hc hq, receiveStep_of_byte t b q hct (h.rxq_eq.trans hq)]
      exact byteRule_agree (respects_takeByte b h) hs.lenConfirm b

theorem deliver_agree (h : s.Agree t) (hs : s.Inv) (i : Input) : OutcomesAgree (deliver i s) (deliver i t) := by
  cases i with
  | word p bytes => exact runWord_agree h p bytes
  | arrive b => exact respects_arriveAll [b] h
  | receive tr => exact receiveStep_agree h hs tr
  | flush n => exact respects_flush n h

theorem step_agree (h : s.Agree t) (hs : s.Inv) : OutcomesAgree (step s) (step t) := by
  unfold step takeTurn
  rw [h.nextInput_eq]
  exact deliver_agree (respects_popInput h) hs.popInput s.nextInput

end

/-- Settles O49: the two steps give agreeing answers, so the second is a next state where the first is. -/
theorem meaninglessBytesNeverMatter : Obligations.MeaninglessBytesNeverMatter := by
  intro s t s' hs h hstep
  have ha := step_agree h hs
  rw [hstep] at ha
  exact ha.exists_next

/-! ## `res_payload` -/

section
variable {s t : State}

/-- An outcome keeps the payload, or its kind is OK (R31). -/
theorem Verdict.payloadOr_eq_or_ok (v : Verdict) (old : Payload) : v.payloadOr old = old ∨ v.kind = .ok := by
  by_cases h : v.kind = .ok
  · exact .inr h
  · exact .inl (v.payloadOr_of_kind_ne old h)

theorem State.finish_payload_cases (s : State) (v : Verdict) :
    (s.finish v).resPayload = s.resPayload ∨ (s.finish v).resKind = .ok := v.payloadOr_eq_or_ok s.resPayload

theorem ExecEffect.payload_cases {i : Instr} (e : ExecEffect i s t) :
    t.resPayload = s.resPayload ∨ t.resKind = .ok ∨ i = .reset := by
  cases e with
  | refuse | send | start | exchange | arrive => exact .inl rfl
  | record raw exp => exact (Verdict.payloadOr_eq_or_ok _ _).imp_right .inl
  | reset hi => exact .inr (.inr hi)

theorem ByteEffect.payload_cases {b : Byte} {u : State} (e : ByteEffect b u t) :
    t.resPayload = u.resPayload ∨ t.resKind = .ok := by
  cases e with
  | collectLast => exact State.finish_payload_cases _ _
  | seekHit | seekMiss | confirmHit | confirmAgain | confirmMiss | collectMore | headMore | headHit | headMiss
  | skipMore | skipLast => exact .inl rfl

theorem ReceiveEffect.payload_cases {tr : Transport} (e : ReceiveEffect tr s t) :
    t.resPayload = s.resPayload ∨ t.resKind = .ok := by
  cases e with
  | idle => exact .inl rfl
  | error | timeout => exact s.finish_payload_cases _
  | byte b q _ _ _ _ hb => exact hb.payload_cases

/-- Settles O35: of the effects of a step, only an outcome and RESET write the payload. -/
theorem onlyOkChangesPayload : Obligations.OnlyOkChangesPayload := by
  intro s t hstep hne
  cases step_effect s t hstep with
  | word p bytes rest i _ hn hd he =>
    obtain heq | hok | rfl := he.payload_cases
    · exact absurd (by simpa using heq) hne
    · exact .inl hok
    · exact .inr ⟨p, bytes, rest, hn, hd⟩
  | receive tr _ _ he =>
    obtain heq | hok := he.payload_cases
    · exact absurd (by simpa using heq) hne
    · exact .inl hok
  | arrive | flush => exact absurd (by simp) hne

/-! ## The streams -/

/-- `txs` gains one frame, which is in `tx_buf`, from IDLE, or is kept (R100, R170). -/
theorem ExecEffect.txs_cases {i : Instr} (e : ExecEffect i s t) :
    t.txs = s.txs ∨ ∃ cmd p0 p1 : Byte, s.sc = .idle ∧ t.txs = s.txs ++ outWord cmd p0 p1 ∧
      t.txBuf.toList = outWord cmd p0 p1 ∧
      (i = .enc cmd p0 p1 ∨ i = .xfer cmd p0 p1 ∨ (i.port = .lineOut ∧ encode i = outWord cmd p0 p1)) := by
  cases e with
  | refuse | record | start | reset | arrive => exact .inl rfl
  | send cmd p0 p1 hc _ hw => exact .inr ⟨cmd, p0, p1, hc, rfl, rfl, hw.imp_right .inr⟩
  | exchange cmd p0 p1 hc hi => exact .inr ⟨cmd, p0, p1, hc, rfl, rfl, .inr (.inl hi)⟩

/-- An instruction adds to `rxq` only the word of an inbound row (R62). -/
theorem ExecEffect.rxq_cases {i : Instr} (e : ExecEffect i s t) :
    t.rxq = s.rxq ∨ (i.port = .lineIn ∧ t.rxq = s.rxq ++ encode i) := by
  cases e with
  | refuse | send | record | start | exchange | reset => exact .inl rfl
  | arrive _ hp => exact .inr ⟨hp, rfl⟩

theorem ByteEffect.streams_eq {b : Byte} {u : State} (e : ByteEffect b u t) : t.txs = u.txs ∧ t.rxq = u.rxq := by
  cases e <;> exact ⟨rfl, rfl⟩

theorem ReceiveEffect.txs_eq {tr : Transport} (e : ReceiveEffect tr s t) : t.txs = s.txs := by
  cases e with
  | idle | error | timeout => rfl
  | byte b q _ _ _ _ hb => exact hb.streams_eq.1

/-- A receive turn takes the head byte of `rxq`, or leaves `rxq` alone (R131, R132). -/
theorem ReceiveEffect.rxq_cases {tr : Transport} (e : ReceiveEffect tr s t) :
    t.rxq = s.rxq ∨ (s.sc ≠ .idle ∧ tr = .delivers ∧ t.rxq = s.rxq.tail) := by
  cases e with
  | idle | error | timeout => exact .inl rfl
  | byte b q _ hc htr _ hb => exact .inr ⟨hc, htr, hb.streams_eq.2⟩

/-- The turns under which `txs` gains the frame of `cmd p0 p1` (R100, R170; log entry 3). -/
theorem decode_sender {p : Port} {bytes rest : List Byte} {i : Instr} {cmd p0 p1 : Byte}
    (hd : decode p bytes = .ok (i, rest))
    (hi : i = .enc cmd p0 p1 ∨ i = .xfer cmd p0 p1 ∨ (i.port = .lineOut ∧ encode i = outWord cmd p0 p1)) :
    (p = .host ∧ bytes = 0x01 :: cmd :: p0 :: p1 :: rest) ∨ (p = .host ∧ bytes = 0x04 :: cmd :: p0 :: p1 :: rest) ∨
      (p = .lineOut ∧ bytes = outWord cmd p0 p1) := by
  obtain ⟨rfl, rfl⟩ := decode_exact hd
  obtain rfl | rfl | ⟨hp, hw⟩ := hi
  · exact .inl ⟨rfl, rfl⟩
  · exact .inr (.inl ⟨rfl, rfl⟩)
  · have hrest := decode_wire_rest (by simp [hp]) hd
    exact .inr (.inr ⟨hp, by simp [hrest, hw]⟩)

theorem StepEffect.txs_cases (e : StepEffect s t) :
    t.txs = s.txs ∨
      ∃ cmd p0 p1 : Byte, s.sc = .idle ∧ t.txs = s.txs ++ outWord cmd p0 p1 ∧ t.txBuf.toList = outWord cmd p0 p1 ∧
        ((∃ rest, s.nextInput = .word .host (0x01 :: cmd :: p0 :: p1 :: rest)) ∨
          (∃ rest, s.nextInput = .word .host (0x04 :: cmd :: p0 :: p1 :: rest)) ∨
          s.nextInput = .word .lineOut (outWord cmd p0 p1)) := by
  cases e with
  | word p bytes rest i _ hn hd he =>
    obtain hkept | ⟨cmd, p0, p1, hc, htxs, hbuf, hi⟩ := he.txs_cases
    · exact .inl (by simpa using hkept)
    refine .inr ⟨cmd, p0, p1, by simpa using hc, by simpa using htxs, hbuf, ?_⟩
    obtain ⟨rfl, rfl⟩ | ⟨rfl, rfl⟩ | ⟨rfl, rfl⟩ := decode_sender hd hi
    · exact .inl ⟨rest, hn⟩
    · exact .inr (.inl ⟨rest, hn⟩)
    · exact .inr (.inr hn)
  | receive tr _ _ he => exact .inl (by simpa using he.txs_eq)
  | arrive | flush => exact .inl (by simp)

theorem StepEffect.rxq_cases (e : StepEffect s t) :
    t.rxq = s.rxq ∨
      (∃ b, s.nextInput = .arrive b ∧ t.rxq = s.rxq ++ [b]) ∨
      (∃ bytes i, s.nextInput = .word .lineIn bytes ∧ decode .lineIn bytes = .ok (i, []) ∧ t.rxq = s.rxq ++ bytes) ∨
      (s.sc ≠ .idle ∧ s.nextInput = .receive .delivers ∧ t.rxq = s.rxq.tail) ∨
      ∃ n, s.nextInput = .flush n ∧ t.rxq = s.rxq.drop n := by
  cases e with
  | word p bytes rest i _ hn hd he =>
    obtain hkept | ⟨hp, hrxq⟩ := he.rxq_cases
    · exact .inl (by simpa using hkept)
    obtain ⟨rfl, rfl⟩ := decode_exact hd
    obtain rfl := decode_wire_rest (by simp [hp]) hd
    rw [hp] at hn hd
    exact .inr (.inr (.inl ⟨_, i, hn, hd, by simpa using hrxq⟩))
  | arrive b hn => exact .inr (.inl ⟨b, hn, by simp⟩)
  | receive tr _ hn he =>
    obtain hkept | ⟨hc, rfl, hrxq⟩ := he.rxq_cases
    · exact .inl (by simpa using hkept)
    · exact .inr (.inr (.inr (.inl ⟨by simpa using hc, hn, by simpa using hrxq⟩)))
  | flush n hn => exact .inr (.inr (.inr (.inr ⟨n, hn, by simp⟩)))

end

/-- Settles O37: by the effects of the turns, and by what the decoder reads each sending and arriving word from. -/
theorem streamsChangeOnlyAsRuled : Obligations.StreamsChangeOnlyAsRuled := by
  intro s t hstep
  have e := step_effect s t hstep
  exact ⟨e.txs_cases, e.rxq_cases⟩

/-! ## The views -/

/-- Settles O51: each view is its register, and PAYLOAD is split where its two parts meet. -/
theorem viewWords : Obligations.ViewWords := by
  intro s
  refine ⟨BitVec.extractLsb'_append_eq_right, BitVec.extractLsb'_append_eq_left, rfl, rfl, ?_, ?_⟩
  · intro i
    simp [State.fbByte]
  · intro i
    simp [State.txByte]

/-- The bits above the lowest `w` of a concatenation are those of its upper part. -/
theorem extractLsb'_above {v w : Nat} (hi : BitVec v) (lo : BitVec w) (start len : Nat) :
    (hi ++ lo).extractLsb' (w + start) len = hi.extractLsb' start len := by
  rw [BitVec.extractLsb'_append_eq_of_le (Nat.le_add_right w start), Nat.add_sub_cancel_left]

theorem ofBool_busy (s : State) : BitVec.ofBool s.busy = if s.sc = .idle then 0 else 1 := by
  unfold State.busy
  split <;> simp [*]

theorem ofBool_eq_ite (b : Bool) : BitVec.ofBool b = if b = true then 1 else 0 := by
  cases b <;> rfl

/-- The eight bit ranges of the STATUS word: the fields are taken off from the lowest, `above` the ones before (R35). -/
theorem statusWord_ranges (s : State) :
    s.statusWord.extractLsb' 0 3 = s.resKind.code ∧
    s.statusWord.extractLsb' 3 3 = s.resReason.code ∧
    s.statusWord.extractLsb' 6 1 = BitVec.ofBool s.busy ∧
    s.statusWord.extractLsb' 7 1 = BitVec.ofBool s.misuse ∧
    s.statusWord.extractLsb' 8 2 = s.misuseCause.code ∧
    s.statusWord.extractLsb' 10 4 = s.fbLen ∧
    s.statusWord.extractLsb' 14 3 = s.sc.code ∧
    s.statusWord.extractLsb' 17 15 = 0 := by
  have aboveKind (k n : Nat) : s.statusWord.extractLsb' (3 + k) n = _ := extractLsb'_above _ _ k n
  have aboveReason (k n : Nat) := (aboveKind (3 + k) n).trans (extractLsb'_above _ _ k n)
  have aboveBusy (k n : Nat) := (aboveReason (1 + k) n).trans (extractLsb'_above _ _ k n)
  have aboveMisuse (k n : Nat) := (aboveBusy (1 + k) n).trans (extractLsb'_above _ _ k n)
  have aboveCause (k n : Nat) := (aboveMisuse (2 + k) n).trans (extractLsb'_above _ _ k n)
  have aboveLen (k n : Nat) := (aboveCause (4 + k) n).trans (extractLsb'_above _ _ k n)
  have aboveSc (k n : Nat) := (aboveLen (3 + k) n).trans (extractLsb'_above _ _ k n)
  exact ⟨BitVec.extractLsb'_append_eq_right,
    (aboveKind 0 3).trans BitVec.extractLsb'_append_eq_right,
    (aboveReason 0 1).trans BitVec.extractLsb'_append_eq_right,
    (aboveBusy 0 1).trans BitVec.extractLsb'_append_eq_right,
    (aboveMisuse 0 2).trans BitVec.extractLsb'_append_eq_right,
    (aboveCause 0 4).trans BitVec.extractLsb'_append_eq_right,
    (aboveLen 0 3).trans BitVec.extractLsb'_append_eq_right,
    aboveSc 0 15⟩

/-- Settles O50: the bit ranges are the fields, and the codes and the reset word are given values. -/
theorem statusWordFields : Obligations.StatusWordFields := by
  refine ⟨fun s => ?_, by decide, by decide, by decide, by decide, rfl⟩
  rw [← ofBool_busy, ← ofBool_eq_ite]
  exact statusWord_ranges s

end Sys2Proof.Machine

/-! The statements of 20_memory.md: one exchange at a time (R59), the arrival step (R62), and that an arrival and the
receive engine's turn commute while a byte waits (R58, R62, R131). -/

namespace Sys2Proof.Machine

/-! ## An arrival step (R62) -/

/-- A step under a scheduled arrival appends the byte to `rxq`. -/
theorem step_of_arrive (s : State) (b : Byte) (more : List Input) (h : s.inputs = .arrive b :: more) :
    step s = .next (State.arriveAll [b] { s with inputs := more }) :=
  step_of_inputs s (.arrive b) more h

/-- Settles O6: the arrival turn is carried out as it stands, whatever the engine's state. -/
theorem stepAppendsArrivedByte : Obligations.StepAppendsArrivedByte := step_of_arrive

/-! ## One exchange at a time (R59) -/

/-- The record of a refusal, by the flag before it (R34, R206). -/
theorem State.refuse_eq (s : State) (c : MisuseCause) :
    s.refuse c = { s with misuse := true, misuseCause := if s.misuse = true then s.misuseCause else c } := by
  unfold State.refuse
  cases s.misuse <;> rfl

/-- While busy an instruction is refused, unless it is RESET or the word of an inbound row. -/
theorem ExecEffect.of_busy {i : Instr} {s t : State} (e : ExecEffect i s t) (hb : s.sc ≠ .idle) :
    (i ≠ .reset ∧ ∃ c : MisuseCause, c ≠ .none ∧ t = s.refuse c) ∨ (i = .reset ∧ t = s.resetRegs) ∨
      i.port = .lineIn := by
  cases e with
  | refuse c hc hi => exact .inl ⟨hi, c, hc, rfl⟩
  | reset hi => exact .inr (.inl ⟨hi, rfl⟩)
  | arrive _ hp => exact .inr (.inr hp)
  | send _ _ _ h | record _ _ h | start _ h | exchange _ _ _ h => exact absurd h hb

/-- Settles O32: a busy block refuses, resets or takes an arrival, and no host instruction is an arrival. -/
theorem busyRefusesHostOperations : Obligations.BusyRefusesHostOperations := by
  intro i s hp hb
  obtain ⟨t, ht, e⟩ := exec_effect i s
  obtain ⟨hi, c, hc, rfl⟩ | ⟨hi, rfl⟩ | hIn := e.of_busy hb
  · exact ⟨fun _ => ⟨c, hc, by rw [ht, s.refuse_eq c]⟩, fun h => absurd h hi⟩
  · exact ⟨fun h => absurd hi h, fun _ => ⟨_, ht, s.resetRegs_sc⟩⟩
  · simp [hp] at hIn

/-- Every instruction of the outbound wire puts some frame on the wire by R100's operation (log entry 3). -/
theorem exec_of_lineOut {i : Instr} (h : i.port = .lineOut) :
    ∃ cmd p0 p1 : Byte, ∀ s, exec i s = .next (sendOnWire cmd p0 p1 s) := by
  cases i with
  | outFrame _ _ _ | outOutputEnable _ _ | outSetCurrent _ _ | outSetVoltageCutoff _ _ | outSetTimer _ _ | outReset _ _
  | outSetMode _ _ | outOnOff _ _ | outVoltage _ _ | outCurrent _ _ | outElapsedTime _ _ | outCapacityAh _ _
  | outCapacityWh _ _ | outTemperature _ _ | outCurrentLimit _ _ | outVoltageLimit _ _ | outTimer _ _ =>
    exact ⟨_, _, _, fun _ => rfl⟩
  | enc | dec | recv | xfer | reset | reserved00 | reserved05 | reserved06 | reserved08 | reserved0C | reserved0E
  | reserved10 | reserved20 | reserved40 | reserved80 | inFrame | inOnOff | inVoltage | inCurrent | inElapsedTime
  | inCapacityAh | inCapacityWh | inTemperature | inCurrentLimit | inVoltageLimit | inTimer | ack => cases h

/-- Settles O22: the send of an outbound row has the guard of ENC. -/
theorem busyOutFrameRowsRefused : Obligations.BusyOutFrameRowsRefused := by
  intro i s hp hb
  obtain ⟨cmd, p0, p1, hexec⟩ := exec_of_lineOut hp
  calc exec i s
    _ = .next (sendOnWire cmd p0 p1 s) := hexec s
    _ = .next (s.refuse .busy) := congrArg _ (whenIdle_of_busy _ s hb)
    _ = _ := congrArg _ (s.refuse_eq .busy)

/-! ## An arrival and the engine's turn (R58, R62, R131) -/

/-- An idle engine lets its turn pass (R131; log entry 8). -/
theorem receiveStep_of_idle (s : State) (tr : Transport) (h : s.sc = .idle) : receiveStep tr s = .next s := if_pos h

/-- The same block in another environment: more bytes behind those waiting, and other turns to come. -/
def State.withEnv (late : List Byte) (turns : List Input) (s : State) : State :=
  { s with rxq := s.rxq ++ late, inputs := turns }

/-- With nothing arriving late, only the turns to come are others. -/
theorem State.withEnv_nil (turns : List Input) (s : State) : s.withEnv [] turns = { s with inputs := turns } := by
  simp [State.withEnv]

/-- A change of the state an answer carries; a stop carries none. -/
def onNext (f : State → State) : Host.Outcome State Fault Refusal → Host.Outcome State Fault Refusal
  | .next s => .next (f s)
  | .fault r => .fault r
  | .refused r => .refused r

section
variable (late : List Byte) (turns : List Input) (b : Byte) (s : State)

/-- The head byte is the same while a byte waits, and late bytes stay behind it (R132). -/
theorem takeByte_withEnv (hq : s.rxq ≠ []) :
    (s.withEnv late turns).takeByte b = (s.takeByte b).withEnv late turns := by
  have htail : (s.rxq ++ late).tail = s.rxq.tail ++ late := List.tail_append_of_ne_nil hq
  exact congrArg (fun q => { s.takeByte b with rxq := q, inputs := turns }) htail

/-! The rules of the engine states read neither `rxq` nor the turns to come (R133 to R137). -/

theorem seekByte_withEnv : seekByte b (s.withEnv late turns) = (seekByte b s).withEnv late turns := by
  unfold seekByte
  split <;> rfl

theorem confirmByte_withEnv : confirmByte b (s.withEnv late turns) = (confirmByte b s).withEnv late turns := by
  unfold confirmByte
  split_ifs <;> rfl

theorem collectDone_withEnv : collectDone (s.withEnv late turns) = (collectDone s).withEnv late turns := by
  unfold collectDone State.withEnv
  split <;> rfl

theorem collectByte_withEnv :
    collectByte b (s.withEnv late turns) = onNext (State.withEnv late turns) (collectByte b s) := by
  have hlen : (s.withEnv late turns).fbLen = s.fbLen := rfl
  unfold collectByte
  rw [hlen]
  split
  · exact congrArg _ (collectDone_withEnv late turns (s.appendByte b))
  · rfl

theorem headDone_withEnv : headDone (s.withEnv late turns) = (headDone s).withEnv late turns := by
  unfold headDone State.withEnv
  split_ifs <;> rfl

theorem headByte_withEnv :
    headByte b (s.withEnv late turns) = onNext (State.withEnv late turns) (headByte b s) := by
  have hlen : (s.withEnv late turns).fbLen = s.fbLen := rfl
  unfold headByte
  rw [hlen]
  split
  · exact congrArg _ (headDone_withEnv late turns (s.appendByte b))
  · rfl

theorem skipDone_withEnv : skipDone (s.withEnv late turns) = (skipDone s).withEnv late turns := by
  unfold skipDone State.withEnv
  split <;> rfl

theorem skipByte_withEnv : skipByte (s.withEnv late turns) = (skipByte s).withEnv late turns :=
  skipDone_withEnv late turns (s.discard 1)

/-- What a taken byte does is the same in every environment. -/
theorem byteRule_withEnv :
    byteRule b (s.withEnv late turns) = onNext (State.withEnv late turns) (byteRule b s) := by
  have hsc : (s.withEnv late turns).sc = s.sc := rfl
  unfold byteRule
  rw [hsc]
  cases s.sc with
  | idle => rfl
  | seek => exact congrArg _ (seekByte_withEnv late turns b s)
  | confirm => exact congrArg _ (confirmByte_withEnv late turns b s)
  | collect => exact collectByte_withEnv late turns b s
  | head => exact headByte_withEnv late turns b s
  | skip => exact congrArg _ (skipByte_withEnv late turns s)

/-- While a byte waits, the engine's turn does the same in every environment: it takes the head, and what arrived late
or comes next is left as it is (R58, R131). -/
theorem receiveStep_withEnv (tr : Transport) (hq : s.rxq ≠ []) :
    receiveStep tr (s.withEnv late turns) = onNext (State.withEnv late turns) (receiveStep tr s) := by
  by_cases hc : s.sc = .idle
  · rw [receiveStep_of_idle (s.withEnv late turns) tr hc, receiveStep_of_idle s tr hc]
    rfl
  cases tr with
  | fails =>
    rw [receiveStep_of_fails (s.withEnv late turns) hc, receiveStep_of_fails s hc]
    rfl
  | delivers =>
    obtain ⟨a, q, hcons⟩ := List.exists_cons_of_ne_nil hq
    have hlate : (s.withEnv late turns).rxq = a :: (q ++ late) := congrArg (· ++ late) hcons
    rw [receiveStep_of_byte (s.withEnv late turns) a (q ++ late) hc hlate, receiveStep_of_byte s a q hc hcons,
      takeByte_withEnv late turns a s hq, byteRule_withEnv]

end

/-- Settles O47: the engine's turn on `s` decides both orders, since it does the same whether `b` has arrived or not. -/
theorem arrivalAndReceiveCommute : Obligations.ArrivalAndReceiveCommute := by
  intro s b tr more hq
  have hfirst : step { s with inputs := .receive tr :: .arrive b :: more } =
      onNext (State.withEnv [] (.arrive b :: more)) (receiveStep tr s) := by
    rw [step_of_receive _ tr (.arrive b :: more) rfl, ← receiveStep_withEnv [] _ s tr hq, State.withEnv_nil]
  have harrive : step { s with inputs := .arrive b :: .receive tr :: more } =
      .next (s.withEnv [b] (.receive tr :: more)) :=
    step_of_arrive { s with inputs := _ } b (.receive tr :: more) rfl
  have hsecond : step (s.withEnv [b] (.receive tr :: more)) = onNext (State.withEnv [b] more) (receiveStep tr s) :=
    (step_of_receive _ tr more rfl).trans (receiveStep_withEnv [b] more s tr hq)
  rw [run_succ_of_step 1 _ _ harrive]
  rcases receiveStep_cases tr s with ⟨t, ht, _⟩ | ⟨hf, _⟩
  · rw [ht] at hfirst hsecond
    have hlast : step (t.withEnv [] (.arrive b :: more)) = .next (t.withEnv [b] more) := by
      rw [State.withEnv_nil]
      exact step_of_arrive _ b more rfl
    rw [run_succ_of_step 1 _ _ hfirst, run_succ_of_step 0 _ _ hlast, run_succ_of_step 0 _ _ hsecond]
  · rw [hf] at hfirst hsecond
    rw [run_succ_of_fault 1 _ _ hfirst, run_succ_of_fault 0 _ _ hsecond]

end Sys2Proof.Machine

/-! The statements of 30_encoding.md: decode and encode are inverse to each other (R70 to R84), the inbound frame that the
validation function accepts (R72, R110), the assembler's words (R90, R91), and the wire rows' effects (R71 to R74). -/

namespace Sys2Proof.Machine

section
variable {i : Instr}

/-! ## A well-formed instruction's word decodes to it -/

/-- A host instruction of one byte, other than RESET, is the reading of its reserved op byte (R82). A row leaves at most
seven bits of the byte free, so that no earlier row takes the byte is a check of its few low values. -/
theorem decodeReserved_encode {op : Byte} (hp : i.port = .host) (hi : i ≠ .reset) (he : encode i = [op]) :
    decodeReserved op = some i := by
  cases i with
  | reserved00 | reserved05 | reserved0E => cases he; rfl
  | reserved06 low | reserved08 low | reserved0C low | reserved10 low | reserved20 low | reserved40 low
  | reserved80 low =>
    cases he
    revert low
    decide
  | reset => exact absurd rfl hi
  | enc | dec | recv | xfer => cases he
  | _ => cases hp

/-- A reserved op byte is a whole host word: none of the five operations has its op byte (R76, R82). -/
theorem decodeHost_of_reserved {op : Byte} (h : decodeReserved op = some i) (rest : List Byte) :
    decodeHost (op :: rest) = .ok (i, rest) := by
  have hne (b : Byte) (hb : decodeReserved b = none) : op ≠ b := by
    rintro rfl
    cases hb.symm.trans h
  simp only [decodeHost, hne 0x01 rfl, hne 0x02 rfl, hne 0x03 rfl, hne 0x04 rfl, hne 0x0F rfl, if_false, h]

/-- DEC takes `n` raw bytes when `n ≤ 8` and none above (R78, R83). -/
theorem decodeDec_append (exp : Byte) {n : Byte} {raw : List Byte} (h : wfDec n raw = true) (rest : List Byte) :
    decodeDec (exp :: n :: (raw ++ rest)) = .ok (.dec exp n raw, rest) := by
  unfold wfDec at h
  split_ifs at h with hn
  · have hlen : n.toNat = raw.length := (beq_iff_eq.1 h).symm
    have hraw : ¬ inLen < raw.length := hlen ▸ Nat.not_lt.2 hn
    simp [decodeDec, hlen, hraw, -inLen_eq]
  · rw [List.isEmpty_iff.1 h]
    exact if_pos (Nat.lt_of_not_le hn)

theorem decodeHost_encode (hp : i.port = .host) (hw : i.wellFormed = true) (rest : List Byte) :
    decodeHost (encode i ++ rest) = .ok (i, rest) := by
  cases i with
  | enc | recv | xfer | reset => rfl
  | dec exp n raw => exact decodeDec_append exp hw rest
  | reserved00 | reserved05 | reserved06 | reserved08 | reserved0C | reserved0E | reserved10 | reserved20 | reserved40
  | reserved80 => exact decodeHost_of_reserved (decodeReserved_encode hp nofun rfl) rest
  | _ => cases hp

/-- The bytes of an outbound frame are read as its command's row (R71). -/
theorem decodeOut_outWord {cmd p0 p1 : Byte} (h : outInstr cmd p0 p1 = i) :
    decodeOut (outWord cmd p0 p1) = .ok (i, []) := by
  simp [decodeOut, outWord, h]

/-- The bytes of an inbound frame are read as its echo's row (R72). -/
theorem decodeIn_inWord {echo p0 p1 p2 : Byte} (h : inInstr echo p0 p1 p2 = i) :
    decodeIn (inWord echo p0 p1 p2) = .ok (i, []) := by
  simp [decodeIn, inWord, h]

/-- OUT_FRAME is the row of every command byte that R74 does not name. -/
theorem outInstr_of_wfOutFrame {cmd : Byte} (h : wfOutFrame cmd = true) (p0 p1 : Byte) :
    outInstr cmd p0 p1 = .outFrame cmd p0 p1 := by
  unfold outInstr
  rw [Option.isNone_iff_eq_none.1 h]

/-- IN_FRAME is the row of every echo byte that R74 does not name as a query: a set code has no inbound row. -/
theorem inInstr_of_wfInFrame {echo : Byte} (h : wfInFrame echo = true) (p0 p1 p2 : Byte) :
    inInstr echo p0 p1 p2 = .inFrame echo p0 p1 p2 := by
  unfold wfInFrame at h
  unfold inInstr
  cases hc : codeOfByte echo with
  | none => rfl
  | some c =>
    rw [hc, ← codeByte_of_codeOfByte hc] at h
    cases c with
    | outputEnable | setCurrent | setVoltageCutoff | setTimer | reset | setMode => rfl
    | onOff | voltage | current | elapsedTime | capacityAh | capacityWh | temperature | currentLimit | voltageLimit
    | timer => cases h

theorem decodeOut_encode (hp : i.port = .lineOut) (hw : i.wellFormed = true) : decodeOut (encode i) = .ok (i, []) := by
  cases i with
  | outFrame cmd p0 p1 => exact decodeOut_outWord (outInstr_of_wfOutFrame hw p0 p1)
  | outOutputEnable | outSetCurrent | outSetVoltageCutoff | outSetTimer | outReset | outSetMode | outOnOff
  | outVoltage | outCurrent | outElapsedTime | outCapacityAh | outCapacityWh | outTemperature | outCurrentLimit
  | outVoltageLimit | outTimer => exact decodeOut_outWord rfl
  | _ => cases hp

theorem decodeIn_encode (hp : i.port = .lineIn) (hw : i.wellFormed = true) : decodeIn (encode i) = .ok (i, []) := by
  cases i with
  | inFrame echo p0 p1 p2 => exact decodeIn_inWord (inInstr_of_wfInFrame hw p0 p1 p2)
  | inOnOff | inVoltage | inCurrent | inElapsedTime | inCapacityAh | inCapacityWh | inTemperature | inCurrentLimit
  | inVoltageLimit | inTimer => exact decodeIn_inWord rfl
  | ack => rfl
  | _ => cases hp

/-! ## What decodes is well-formed -/

/-- The row of an outbound frame is OUT_FRAME only for a code without a row of its own (R71, R74). -/
theorem outInstr_wellFormed (cmd p0 p1 : Byte) : (outInstr cmd p0 p1).wellFormed = true := by
  unfold outInstr
  cases h : codeOfByte cmd with
  | none => exact Option.isNone_iff_eq_none.2 h
  | some c => cases c <;> rfl

/-- The row of an inbound frame is IN_FRAME only for a code without an inbound row of its own (R72, R74). -/
theorem inInstr_wellFormed (echo p0 p1 p2 : Byte) : (inInstr echo p0 p1 p2).wellFormed = true := by
  unfold inInstr
  cases h : codeOfByte echo with
  | none =>
    have hnone : (codeOfByte echo).isNone = true := Option.isNone_iff_eq_none.2 h
    exact Bool.or_eq_true_iff.2 (.inl hnone)
  | some c =>
    rw [← codeByte_of_codeOfByte h]
    cases c <;> rfl

/-- DEC is read with the raw bytes its `n` says (R78, R83). -/
theorem decodeDec_wellFormed {bytes rest : List Byte} (h : decodeDec bytes = .ok (i, rest)) : i.wellFormed = true := by
  unfold decodeDec at h
  split at h
  next exp n t =>
    split_ifs at h with hn hlen
    · cases h
      exact if_neg (Nat.not_le.2 hn)
    · cases h
      have hraw : (t.take n.toNat).length = n.toNat := List.length_take_of_le (Nat.le_of_not_lt hlen)
      exact (if_pos (Nat.le_of_not_lt hn)).trans (beq_iff_eq.2 hraw)
  · cases h

/-- What decodes at a port is well-formed: the bytes are its word, and the three rows with a condition meet it. -/
theorem decode_wellFormed {p : Port} {bytes rest : List Byte} (h : decode p bytes = .ok (i, rest)) :
    i.wellFormed = true := by
  obtain ⟨rfl, rfl⟩ := decode_exact h
  cases i with
  | dec exp n raw => exact decodeDec_wellFormed (bytes := exp :: n :: (raw ++ rest)) h
  | outFrame cmd p0 p1 =>
    obtain ⟨-, -, rfl⟩ := decodeOut_exact h
    have hrow : outInstr cmd p0 p1 = .outFrame cmd p0 p1 := by
      simpa using (decodeOut_outWord rfl).symm.trans h
    exact hrow ▸ outInstr_wellFormed cmd p0 p1
  | inFrame echo p0 p1 p2 =>
    obtain ⟨-, -, rfl⟩ := decodeIn_exact h
    have hrow : inInstr echo p0 p1 p2 = .inFrame echo p0 p1 p2 := by
      simpa using (decodeIn_inWord rfl).symm.trans h
    exact hrow ▸ inInstr_wellFormed echo p0 p1 p2
  | _ => rfl

end

/-- Settles O1, at each port by the row of the instruction. -/
theorem decodeEncodeRoundTrip : Obligations.DecodeEncodeRoundTrip := by
  intro i rest hw
  refine ⟨?_, fun hp => decodeHost_encode hp hw rest⟩
  cases hp : i.port with
  | host => exact (encode i).append_nil ▸ decodeHost_encode hp hw []
  | lineOut => exact decodeOut_encode hp hw
  | lineIn => exact decodeIn_encode hp hw

/-- Settles O2: the bytes are the instruction's word and the rest, and the decoder checks the rows' conditions. -/
theorem encodeDecodeExact : Obligations.EncodeDecodeExact := by
  intro p bytes i rest h
  exact ⟨decode_wellFormed h, decode_exact h⟩

/-! ## The frame that `dec` accepts (R72, R110) -/

theorem exists_bytes_of_length_eq_eight {raw : List Byte} (h : raw.length = 8) :
    ∃ b0 b1 b2 b3 b4 b5 b6 b7, raw = [b0, b1, b2, b3, b4, b5, b6, b7] := by
  match raw, h with
  | [b0, b1, b2, b3, b4, b5, b6, b7], _ => exact ⟨b0, b1, b2, b3, b4, b5, b6, b7, rfl⟩

/-- On its domain `dec` answers OK exactly on the inbound frame that echoes the expected command (R110). -/
theorem decFrame_eq_ok_iff {raw : List Byte} (hlen : raw.length ≤ 8) (exp : Byte) (v : Payload) :
    decFrame raw exp = .ok v ↔ ∃ p0 p1 p2 : Byte, raw = inWord exp p0 p1 p2 ∧ v = p0 ++ p1 ++ p2 := by
  constructor
  · intro h
    unfold decFrame at h
    split_ifs at h with h0 h1 hs hh hf he
    have h8 : raw.length = 8 := Nat.le_antisymm hlen (Nat.le_of_not_lt hs)
    obtain ⟨b0, b1, b2, b3, b4, b5, b6, b7, rfl⟩ := exists_bytes_of_length_eq_eight h8
    obtain ⟨rfl, rfl⟩ : b0 = ih0 ∧ b1 = ih1 := by simpa [byteAt] using hh
    obtain ⟨rfl, rfl⟩ : b6 = it0 ∧ b7 = it1 := by simpa [byteAt] using hf
    obtain rfl : b2 = exp := not_not.1 he
    cases h
    exact ⟨b3, b4, b5, rfl, rfl⟩
  · rintro ⟨p0, p1, p2, rfl, rfl⟩
    simp [decFrame, inWord, byteAt, payloadOf]

/-- The inbound wire reads exactly the bytes of an inbound frame as the row of its echo (R72). -/
theorem decode_lineIn_eq_inInstr_iff {raw : List Byte} {echo p0 p1 p2 : Byte} :
    decode .lineIn raw = .ok (inInstr echo p0 p1 p2, []) ↔ raw = inWord echo p0 p1 p2 := by
  constructor
  · intro h
    obtain ⟨-, he, -⟩ := decodeIn_exact h
    obtain ⟨-, hw⟩ := inInstr_exact echo p0 p1 p2
    exact he.symm.trans hw
  · rintro rfl
    exact decodeIn_inWord rfl

/-- Settles O13: both sides say that the bytes are the inbound frame of the expected command. -/
theorem decAcceptsExactlyInFrames : Obligations.DecAcceptsExactlyInFrames := by
  intro raw exp v hlen
  simp only [decode_lineIn_eq_inInstr_iff]
  exact decFrame_eq_ok_iff hlen exp v

/-! ## The assembler (R90, R91) -/

/-- A DEC line of at most eight bytes gives a well-formed DEC (R76, R78). -/
theorem wfDec_ofNat_length {raw : List Byte} (h : raw.length ≤ 8) : wfDec (BitVec.ofNat 8 raw.length) raw = true := by
  have hn : (BitVec.ofNat 8 raw.length).toNat = raw.length := Nat.mod_eq_of_lt (by omega)
  simp [wfDec, hn, h]

/-- Settles O4: each line's word is its instruction's, and a DEC line's word decodes as every DEC word does. -/
theorem assemblerEmitsHostWords : Obligations.AssemblerEmitsHostWords := by
  have decLine (exp : Byte) (raw : List Byte) (h : raw.length ≤ 8) :
      decode .host (assemble (.dec exp raw)) = .ok (.dec exp (BitVec.ofNat 8 raw.length) raw, []) :=
    (decodeEncodeRoundTrip (.dec exp _ raw) [] (wfDec_ofNat_length h)).1
  exact ⟨fun _ _ _ => ⟨rfl, rfl, rfl⟩, fun exp raw h => ⟨rfl, decLine exp raw h⟩, fun _ => rfl, rfl, fun _ => rfl, rfl,
    rfl, fun _ v => ⟨v.extractLsb' 8 8, v.extractLsb' 0 8, rfl, opByte_eq_append (n := 8) (m := 8) rfl⟩⟩

/-! ## The wire rows' effects (R71 to R74, R100; log entries 3 and 4) -/

/-- In IDLE R100's operation sends the frame (R71). -/
theorem sendOnWire_of_idle {s : State} (h : s.sc = .idle) (cmd p0 p1 : Byte) :
    sendOnWire cmd p0 p1 s = s.sendFrame cmd p0 p1 := whenIdle_of_idle _ s h

/-- Settles O21: each row sends the frame of the code R74 gives its command. -/
theorem outFrameRowsSend : Obligations.OutFrameRowsSend := by
  intro p0 p1 s hidle sent hsent
  have row (cmd : Byte) :
      (.next (sendOnWire cmd p0 p1 s) : Host.Outcome State Fault Refusal) = .next (sent cmd) :=
    congrArg _ ((sendOnWire_of_idle hidle cmd p0 p1).trans (hsent cmd).symm)
  exact ⟨row, row _, row _, row _, row _, row _, row _, row _, row _, row _, row _, row _, row _, row _, row _, row _,
    row _⟩

/-- Settles O23: the bytes of each row's word arrive, whatever the engine's state. -/
theorem inFrameRowsArrive : Obligations.InFrameRowsArrive := by
  intro p0 p1 p2 s got hgot
  have arrives (bs : List Byte) : (.next (s.arriveAll bs) : Host.Outcome State Fault Refusal) = .next (got bs) :=
    congrArg _ (hgot bs).symm
  exact ⟨fun _ => arrives _, arrives _, arrives _, arrives _, arrives _, arrives _, arrives _, arrives _, arrives _,
    arrives _, arrives _, arrives _⟩

end Sys2Proof.Machine

/-! The statement of 40_encode.md: ENC builds the outbound frame and sends it, or is refused (R100). -/

namespace Sys2Proof.Machine

/-- The frame goes to `tx_buf` and, byte 0 first, to the end of `txs`, and nothing else changes (R51, R71). -/
theorem State.sendFrame_eq (cmd p0 p1 : Byte) (s : State) :
    s.sendFrame cmd p0 p1 =
      { s with txBuf := #v[0xB1, 0xB2, cmd, p0, p1, 0xB6], txs := s.txs ++ outWord cmd p0 p1 } := rfl

/-- ENC runs R100's operation, as the rows of the outbound wire do. -/
theorem exec_enc (cmd p0 p1 : Byte) (s : State) : exec (.enc cmd p0 p1) s = .next (sendOnWire cmd p0 p1 s) := rfl

/-- While busy R100's operation only records the refusal (R59, R204). -/
theorem sendOnWire_of_busy {s : State} (h : s.sc ≠ .idle) (cmd p0 p1 : Byte) :
    sendOnWire cmd p0 p1 s = s.refuse .busy := whenIdle_of_busy _ s h

/-- Settles O10: ENC's word is read by the round trip, and R100's operation either sends the frame or records BUSY. -/
theorem encBuildsAndSendsFrame : Obligations.EncBuildsAndSendsFrame := by
  intro cmd p0 p1 s
  refine ⟨(decodeEncodeRoundTrip (.enc cmd p0 p1) [] rfl).1, fun hidle => ?_, fun hbusy => ?_⟩
  · rw [exec_enc, sendOnWire_of_idle hidle, State.sendFrame_eq, outWord]
  · rw [exec_enc, sendOnWire_of_busy hbusy, State.refuse_eq]

end Sys2Proof.Machine

/-! The statements of 41_decode.md: the outcomes of the validation function `dec` (R110, R112), and DEC, which records the
outcome or is refused (R111). -/

namespace Sys2Proof.Machine

/-! ## The validation function (R110) -/

/-- The inputs of each outcome of `dec`, one case per line of R110's pseudocode. A case also says that the checks before
it in R112's order pass, so an input has one outcome. -/
inductive DecOutcome (exp : Byte) : List Byte → Verdict → Prop where
  | empty : DecOutcome exp [] .noResponse
  | ack : DecOutcome exp [0x6F] .ackOnly
  | short {raw : List Byte} (hne : raw ≠ []) (hack : raw ≠ [0x6F]) (hlt : raw.length < 8) : DecOutcome exp raw .short
  | header {raw : List Byte} (hlen : raw.length = 8) (hh : raw.take 2 ≠ [0xCA, 0xCB]) : DecOutcome exp raw .header
  | footer {raw : List Byte} (hlen : raw.length = 8) (hh : raw.take 2 = [0xCA, 0xCB]) (hf : raw.drop 6 ≠ [0xCE, 0xCF]) :
    DecOutcome exp raw .footer
  | echo (e p0 p1 p2 : Byte) (he : e ≠ exp) : DecOutcome exp (inWord e p0 p1 p2) .echo
  | ok (p0 p1 p2 : Byte) : DecOutcome exp (inWord exp p0 p1 p2) (.ok (p0 ++ p1 ++ p2))

section
variable {raw : List Byte} {exp : Byte} {v : Verdict}

/-- R110's test for the acknowledgment is true of the lone byte `6F` only (R113). -/
theorem eq_ack_of_check (h : raw.length = 1 ∧ byteAt raw 0 = ackByte) : raw = [0x6F] := by
  obtain ⟨hlen, hb⟩ := h
  obtain ⟨b, rfl⟩ := List.length_eq_one_iff.1 hlen
  exact congrArg (fun b => [b]) hb

/-- Eight bytes between the inbound header and footer are some inbound frame (R72). -/
theorem exists_inWord_of_header_footer (hlen : raw.length = 8) (hh : raw.take 2 = [0xCA, 0xCB])
    (hf : raw.drop 6 = [0xCE, 0xCF]) : ∃ e p0 p1 p2 : Byte, raw = inWord e p0 p1 p2 := by
  obtain ⟨b0, b1, e, p0, p1, p2, b6, b7, rfl⟩ := exists_bytes_of_length_eq_eight hlen
  cases hh
  cases hf
  exact ⟨e, p0, p1, p2, rfl⟩

/-- R110's checks, in R112's order, answer the outcome that the input has. -/
theorem DecOutcome.decFrame_eq (h : DecOutcome exp raw v) : decFrame raw exp = v := by
  cases h with
  | empty | ack => rfl
  | short hne hack hlt =>
    have hlen : raw.length ≠ 0 := mt List.length_eq_zero_iff.1 hne
    rw [decFrame, if_neg hlen, if_neg (mt eq_ack_of_check hack)]
    exact if_pos hlt
  | header hlen hh =>
    obtain ⟨b0, b1, b2, b3, b4, b5, b6, b7, rfl⟩ := exists_bytes_of_length_eq_eight hlen
    have hbad : b0 ≠ 0xCA#8 ∨ b1 ≠ 0xCB#8 := by simpa [imp_iff_not_or] using hh
    simp [decFrame, byteAt, hbad]
  | footer hlen hh hf =>
    obtain ⟨b0, b1, b2, b3, b4, b5, b6, b7, rfl⟩ := exists_bytes_of_length_eq_eight hlen
    cases hh
    have hbad : b6 ≠ 0xCE#8 ∨ b7 ≠ 0xCF#8 := by simpa [imp_iff_not_or] using hf
    simp [decFrame, byteAt, hbad]
  | echo e p0 p1 p2 he => simp [decFrame, byteAt, inWord, he]
  | ok p0 p1 p2 =>
    have hlen : (inWord exp p0 p1 p2).length ≤ 8 := Nat.le_refl 8
    exact (decFrame_eq_ok_iff hlen exp _).2 ⟨p0, p1, p2, rfl, rfl⟩

/-- Every input of at most eight bytes has an outcome (R115): that of the first check it fails, or OK. -/
theorem exists_decOutcome (hlen : raw.length ≤ 8) (exp : Byte) : ∃ v, DecOutcome exp raw v := by
  obtain hlt | h8 := Nat.lt_or_eq_of_le hlen
  · obtain rfl | hne := eq_or_ne raw []
    · exact ⟨_, .empty⟩
    obtain rfl | hack := eq_or_ne raw [0x6F]
    · exact ⟨_, .ack⟩
    exact ⟨_, .short hne hack hlt⟩
  · obtain hh | hh := ne_or_eq (raw.take 2) [0xCA, 0xCB]
    · exact ⟨_, .header h8 hh⟩
    obtain hf | hf := ne_or_eq (raw.drop 6) [0xCE, 0xCF]
    · exact ⟨_, .footer h8 hh hf⟩
    obtain ⟨e, p0, p1, p2, rfl⟩ := exists_inWord_of_header_footer h8 hh hf
    obtain he | rfl := ne_or_eq e exp
    · exact ⟨_, .echo e p0 p1 p2 he⟩
    exact ⟨_, .ok p0 p1 p2⟩

theorem decFrame_eq_iff (hlen : raw.length ≤ 8) : decFrame raw exp = v ↔ DecOutcome exp raw v := by
  refine ⟨fun h => ?_, DecOutcome.decFrame_eq⟩
  obtain ⟨w, hw⟩ := exists_decOutcome hlen exp
  exact (hw.decFrame_eq.symm.trans h) ▸ hw

end

/-- Settles O11: each clause is one case of `DecOutcome`, and the codes are R200's table. -/
theorem decFrameOutcomes : Obligations.DecFrameOutcomes := by
  refine ⟨fun raw exp hlen => ?_, fun _ => ⟨rfl, rfl⟩, ⟨rfl, rfl⟩, ⟨rfl, rfl⟩, ⟨rfl, rfl⟩, ⟨rfl, rfl⟩, ⟨rfl, rfl⟩,
    ⟨rfl, rfl⟩⟩
  simp only [decFrame_eq_iff hlen]
  refine ⟨?noResponse, ?ackOnly, ?short, ?header, ?footer, ?echo, fun v => ?ok⟩
  case noResponse => exact ⟨fun | .empty => rfl, fun h => h ▸ .empty⟩
  case ackOnly => exact ⟨fun | .ack => rfl, fun h => h ▸ .ack⟩
  case short => exact ⟨fun | .short hne hack hlt => ⟨hne, hack, hlt⟩, fun ⟨hne, hack, hlt⟩ => .short hne hack hlt⟩
  case header => exact ⟨fun | .header h8 hh => ⟨h8, hh⟩, fun ⟨h8, hh⟩ => .header h8 hh⟩
  case footer => exact ⟨fun | .footer h8 hh hf => ⟨h8, hh, hf⟩, fun ⟨h8, hh, hf⟩ => .footer h8 hh hf⟩
  case echo =>
    exact ⟨fun | .echo e p0 p1 p2 he => ⟨e, p0, p1, p2, rfl, he⟩, fun ⟨e, p0, p1, p2, h, he⟩ => h ▸ .echo e p0 p1 p2 he⟩
  case ok => exact ⟨fun | .ok p0 p1 p2 => ⟨p0, p1, p2, rfl, rfl⟩, fun ⟨p0, p1, p2, h, hv⟩ => h ▸ hv ▸ .ok p0 p1 p2⟩

/-! ## The operation DEC (R111) -/

/-- DEC with `n` above 8 is refused with BAD_LEN, whatever the engine's state (R207). -/
theorem exec_dec_of_gt {n : Byte} (h : 8 < n.toNat) (exp : Byte) (raw : List Byte) (s : State) :
    exec (.dec exp n raw) s = .next (s.refuse .badLen) := if_pos h

/-- DEC with `n` in range has the guard of ENC, and judges the first `n` bytes (R59, R111). -/
theorem exec_dec_of_le {n : Byte} (h : n.toNat ≤ 8) (exp : Byte) (raw : List Byte) (s : State) :
    exec (.dec exp n raw) s = .next (whenIdle (State.record (decFrame (raw.take n.toNat) exp)) s) :=
  if_neg (Nat.not_lt.2 h)

/-- Settles O12: DEC's word is read by the round trip; BAD_LEN is checked first, then BUSY, then the outcome is recorded. -/
theorem decJudgesHostBytes : Obligations.DecJudgesHostBytes := by
  intro exp n raw s
  refine ⟨fun hn hraw => ?_, fun hn => ?_, fun hn hbusy => ?_, fun hn hraw hidle => ?_⟩
  · have hw : wfDec n raw = true := by simp [wfDec, hn, hraw]
    exact (decodeEncodeRoundTrip (.dec exp n raw) [] hw).1
  · rw [exec_dec_of_gt hn, State.refuse_eq]
  · rw [exec_dec_of_le hn, whenIdle_of_busy _ s hbusy, State.refuse_eq]
  · rw [exec_dec_of_le hn, whenIdle_of_idle _ s hidle, List.take_of_length_le hraw.le]
    cases decFrame raw exp <;> rfl

end Sys2Proof.Machine

/-! The statements of 42_resync.md: the start of a transaction (R130), the rule of each engine state (R131 to R140), the
bytes consumed and the end of a transaction (R142, R145, R146), and whole transactions in closed form (R143, R144, R148,
R149). -/

namespace Sys2Proof.Machine

/-! ## The start of a transaction (R130) -/

theorem startState_eq_ite (o : ScanOrigin) : startState o = if o = .zero then .seek else .head := by
  cases o <;> rfl

/-- RECV has the guard of ENC, and starts a transaction (R59, R130). -/
theorem exec_recv (exp : Byte) (s : State) : exec (.recv exp) s = .next (whenIdle (State.startReceive exp) s) := rfl

/-- Settles O14: RECV's word is read by the round trip, and R130's operation either starts a transaction or records
BUSY. -/
theorem recvStartsTransaction : Obligations.RecvStartsTransaction := by
  intro exp s
  refine ⟨(decodeEncodeRoundTrip (.recv exp) [] rfl).1, fun hidle => ?_, fun hbusy => ?_⟩
  · rw [exec_recv, whenIdle_of_idle _ s hidle, State.startReceive, startState_eq_ite]
  · rw [exec_recv, whenIdle_of_busy _ s hbusy, State.refuse_eq]

/-- Settles O9: the receive step of an idle engine lets its turn pass. -/
theorem idleEngineTurnPasses : Obligations.IdleEngineTurnPasses := by
  intro s tr more hidle hin
  rw [step_of_receive s tr more hin]
  exact receiveStep_of_idle { s with inputs := more } tr hidle

/-! ## The rule of each engine state (R133 to R137) -/

section
variable {b : Byte} {u : State}

theorem byteRule_of_seek (h : u.sc = .seek) : byteRule b u = .next (seekByte b u) := by
  simp [byteRule, h]

theorem byteRule_of_confirm (h : u.sc = .confirm) : byteRule b u = .next (confirmByte b u) := by
  simp [byteRule, h]

/-- With room in `fb` COLLECT stores the byte (R25, R135). -/
theorem byteRule_of_collect (h : u.sc = .collect) (hl : u.fbLen.toNat < 8) :
    byteRule b u = .next (collectDone (u.appendByte b)) := by
  simp [byteRule, h, collectByte, hl]

/-- With room in `fb` HEAD stores the byte (R25, R136). -/
theorem byteRule_of_head (h : u.sc = .head) (hl : u.fbLen.toNat < 8) :
    byteRule b u = .next (headDone (u.appendByte b)) := by
  simp [byteRule, h, headByte, hl]

theorem byteRule_of_skip (h : u.sc = .skip) : byteRule b u = .next (skipByte u) := by
  simp [byteRule, h]

/-- The state after eight bytes records the outcome of `dec` (R135). -/
theorem collectDone_of_full (h : u.fbLen = 8) : collectDone u = u.finish (decFrame u.fb.toList u.expR) := if_pos h

theorem collectDone_of_open (h : u.fbLen ≠ 8) : collectDone u = u := if_neg h

theorem headDone_of_open (h : u.fbLen ≠ 2) : headDone u = u := if_neg h

/-- Two bytes in HEAD are the header, or are dropped (R136). -/
theorem headDone_of_two (h : u.fbLen = 2) :
    headDone u = if u.fb[0] = 0xCA ∧ u.fb[1] = 0xCB then u.goto .collect
      else (u.discard 2).dropFrame (afterHead u.cfg.scanOrigin) := if_pos h

end

theorem afterHead_eq_ite (o : ScanOrigin) : afterHead o = if o = .two then .seek else .skip := by
  cases o <;> rfl

/-- A scheduled receive turn with a byte waiting takes the byte (R132) and runs the rule of the engine's state. -/
theorem step_of_byte {s : State} {b : Byte} {q : List Byte} {more : List Input} (hbusy : s.sc ≠ .idle)
    (hin : s.inputs = .receive .delivers :: more) (hq : s.rxq = b :: q) :
    step s = byteRule b { s with
      inputs := more, rxq := q, firstB := if s.rxCount = 0 then b else s.firstB, rxCount := satAdd32 s.rxCount 1 } := by
  have htail : s.rxq.tail = q := congrArg List.tail hq
  rw [step_of_receive s .delivers more hin, receiveStep_of_byte { s with inputs := more } b q hbusy hq, State.takeByte,
    htail]

/-- Settles O24: the rule of SEEK after the common effect of a byte. -/
theorem byteInSeek : Obligations.ByteInSeek := by
  intro s u b q more hc hin hq hu
  rw [step_of_byte (by simp [hc]) hin hq, ← hu, byteRule_of_seek (hu ▸ hc)]
  rfl

/-- Settles O25: the rule of CONFIRM after the common effect of a byte. -/
theorem byteInConfirm : Obligations.ByteInConfirm := by
  intro s u b q more hc hin hq hu
  rw [step_of_byte (by simp [hc]) hin hq, ← hu, byteRule_of_confirm (hu ▸ hc)]
  rfl

/-- Settles O26: the byte is stored at `fb_len`, and the eighth records the outcome. -/
theorem byteInCollect : Obligations.ByteInCollect := by
  intro s u b q more v hc _ hl hin hq hu hv
  have hlen := fbLen_succ_eq_iff s.fbLen 7 (by omega) (by omega)
  have hstep : step s = .next (collectDone u) := by
    rw [hu]
    exact (step_of_byte (by simp [hc]) hin hq).trans (byteRule_of_collect hc (Nat.lt_succ_of_le hl))
  rw [hstep]
  split
  next hlt =>
    have hopen : u.fbLen ≠ 8 := by
      rw [hu]
      exact mt hlen.1 (Nat.ne_of_lt hlt)
    rw [collectDone_of_open hopen]
  next hge =>
    have hfull : u.fbLen = 8 := hu ▸ hlen.2 (by omega)
    have hverdict : decFrame u.fb.toList u.expR = v := by rw [hv, hu]
    have hpay : u.resPayload = s.resPayload := hu ▸ rfl
    rw [collectDone_of_full hfull, hverdict, State.finish, hpay]
    cases v <;> rfl

/-- Settles O27: the first byte is stored, and the second stands behind it for the header check. -/
theorem byteInHead : Obligations.ByteInHead := by
  intro s u b q more hc hl hin hq hu
  have hlen := fbLen_succ_eq_iff s.fbLen 1 (by omega) (by omega)
  have hstep : step s = .next (headDone u) := by
    rw [hu]
    exact (step_of_byte (by simp [hc]) hin hq).trans (byteRule_of_head hc (Nat.lt_of_le_of_lt hl (by decide)))
  rw [hstep]
  split
  next h0 =>
    have hopen : u.fbLen ≠ 2 := by simp [hu, h0]
    rw [headDone_of_open hopen]
  next hne =>
    have hone : s.fbLen.toNat = 1 := by
      have : s.fbLen.toNat ≠ 0 := fun h => hne (BitVec.eq_of_toNat_eq h)
      omega
    have htwo : u.fbLen = 2 := hu ▸ hlen.2 hone
    have hfb0 : u.fb[0] = s.fb[0] := by simp [hu, hone]
    have hfb1 : u.fb[1] = b := by simp [hu, hone]
    have ho : u.cfg.scanOrigin = s.cfg.scanOrigin := hu ▸ rfl
    rw [headDone_of_two htwo, hfb0, hfb1, ho, afterHead_eq_ite]
    rfl

/-- Settles O28: the byte is counted, and R137's comparison is with 8. -/
theorem byteInSkip : Obligations.ByteInSkip := by
  intro s u b q more hc ho hin hq hu
  have hcount : u.rxCount.toNat = originValue u.cfg.scanOrigin ↔ u.rxCount = 8 := by
    rw [← BitVec.toNat_inj, hu, ho]
    rfl
  have hstep : step s = .next (skipDone u) := by
    rw [hu]
    exact (step_of_byte (by simp [hc]) hin hq).trans (byteRule_of_skip hc)
  rw [hstep, skipDone]
  simp only [hcount]
  rfl

/-! ## The end of a transaction without a byte (R138, R139) -/

/-- Settles O29: the `Timeout` records R138's outcome, none of which carries a payload. -/
theorem timeoutEndsTransaction : Obligations.TimeoutEndsTransaction := by
  intro s more hbusy hin hq
  rw [step_of_receive s .delivers more hin, receiveStep_of_empty { s with inputs := more } hbusy hq, timeoutVerdict,
    ackByte_eq]
  split_ifs <;> rfl

/-- Settles O30: the `Error` is taken before the queue is looked at. -/
theorem errorEndsTransaction : Obligations.ErrorEndsTransaction := by
  intro s more hbusy hin
  rw [step_of_receive s .fails more hin, receiveStep_of_fails { s with inputs := more } hbusy]
  rfl

/-! ## One byte consumed, and the end of a transaction (R142, R145, R146) -/

/-- In a state of the invariant the engine's turn takes the byte that waits (R25, R142). -/
theorem State.Inv.step_byteEffect {s : State} {b : Byte} {q : List Byte} (h : s.Inv) (hbusy : s.sc ≠ .idle)
    (hn : s.nextInput = .receive .delivers) (hq : s.rxq = b :: q) :
    ∃ t, step s = .next t ∧ ByteEffect b (s.popInput.takeByte b) t := by
  have hstep : step s = byteRule b (s.popInput.takeByte b) := by
    unfold step takeTurn
    rw [hn]
    exact receiveStep_of_byte s.popInput b q (by simpa using hbusy) (by simpa using hq)
  rw [hstep]
  obtain he | ⟨hf, -⟩ | ⟨-, hi⟩ := byteRule_cases b (s.popInput.takeByte b)
  · exact he
  · exact absurd (hstep.trans hf) (invariantExcludesFaults s _ h)
  · exact absurd (by simpa using hi) hbusy

/-- Settles O31: the rules of the engine states change neither `rxq` nor `rx_count` after the byte is taken. -/
theorem receiveTurnConsumesOneByte : Obligations.ReceiveTurnConsumesOneByte := by
  intro s b q h hbusy hn hq
  obtain ⟨t, hstep, e⟩ := h.step_byteEffect hbusy hn hq
  refine ⟨t, hstep, ?_, ?_⟩
  · rw [e.streams_eq.2, State.takeByte_rxq, State.popInput_rxq, hq, List.tail_cons]
  · rw [e.rxCount_eq, State.takeByte_rxCount, State.popInput_rxCount, satAdd32_toNat]

section
variable {s t : State}

/-- While busy only RESET leads an instruction to IDLE (R59, R171). -/
theorem ExecEffect.idle_iff {i : Instr} (e : ExecEffect i s t) (hbusy : s.sc ≠ .idle) : t.sc = .idle ↔ i = .reset := by
  cases e with
  | reset hi => exact iff_of_true rfl hi
  | refuse _ _ hi | arrive hi => exact iff_of_false hbusy hi
  | send _ _ _ h | record _ _ h | start _ h | exchange _ _ _ h => exact absurd h hbusy

/-- A byte ends the transaction exactly as the eighth of a frame (R135, R146). -/
theorem ByteEffect.idle_iff {b : Byte} {u : State} (e : ByteEffect b u t) :
    t.sc = .idle ↔ u.sc = .collect ∧ u.fbLen = 7 := by
  cases e with
  | collectLast h hl => exact iff_of_true rfl ⟨h, BitVec.eq_of_toNat_eq hl⟩
  | collectMore h hl =>
    refine iff_of_false (by simp [h]) ?_
    rintro ⟨-, h7⟩
    simp [h7] at hl
  | headMiss h =>
    rw [State.dropFrame_sc, afterHead_eq_ite]
    split <;> simp [h]
  | seekHit h | seekMiss h | confirmHit h | confirmAgain h | confirmMiss h | headMore h | headHit h | skipMore h
  | skipLast h => simp [h]

/-- A receive turn of a busy engine ends the transaction with a failing read, an empty queue or the eighth frame byte
(R146). -/
theorem ReceiveEffect.idle_iff {tr : Transport} (e : ReceiveEffect tr s t) (hbusy : s.sc ≠ .idle) :
    t.sc = .idle ↔ tr = .fails ∨ (tr = .delivers ∧ (s.rxq = [] ∨ (s.sc = .collect ∧ s.fbLen = 7))) := by
  cases e with
  | idle h => exact absurd h hbusy
  | error _ htr => simp [htr]
  | timeout _ htr hq => simp [htr, hq]
  | byte b q _ _ htr hq hb => simp [hb.idle_iff, htr, hq]

end

/-- Settles O36: by the effect of the turn, and no arrival or flush changes `sc`. -/
theorem transactionEndsOnlyAsRuled : Obligations.TransactionEndsOnlyAsRuled := by
  intro s t hbusy hstep
  cases step_effect s t hstep with
  | word p bytes rest i _ hn hd he =>
    have hidle := he.idle_iff (by simpa using hbusy)
    simp [hn, hd, hidle]
  | receive tr _ hn he =>
    have hidle := he.idle_iff (by simpa using hbusy)
    simpa [hn] using hidle
  | arrive b hn => simp [hn, hbusy]
  | flush n hn => simp [hn, hbusy]

/-- Settles O42: every state of a run from reset has the invariant, which holds the balance. -/
theorem countersBalanceInEveryRun : Obligations.CountersBalanceInEveryRun := by
  intro n c rxq inputs t hrun hrx _
  have hreset : ({ State.reset with cfg := c, rxq := rxq, inputs := inputs } : State).Inv :=
    State.resetRegs_inv { State.reset with cfg := c, rxq := rxq, inputs := inputs }
  exact (run_induction State.Inv stepKeepsInvariant n _ t hreset hrun).count hrx

/-- What a byte does leaves the turns to come. -/
theorem ByteEffect.inputs_eq {b : Byte} {u t : State} (e : ByteEffect b u t) : t.inputs = u.inputs := by
  cases e <;> rfl

/-- Settles O46, by induction on the bytes that wait: each turn takes one or ends the transaction, and the turn after
the last is a `Timeout`. -/
theorem receiveTurnsEndTransaction : Obligations.ReceiveTurnsEndTransaction := by
  intro s more h hbusy hin
  generalize hq : s.rxq = q at hin ⊢
  induction q generalizing s with
  | nil =>
    have hstep := (step_of_receive s .delivers more hin).trans (receiveStep_of_empty { s with inputs := more } hbusy hq)
    exact ⟨1, _, Nat.le_refl 1, run_succ_of_step 0 s _ hstep, State.finish_sc _ _⟩
  | cons b q ih =>
    have hn : s.nextInput = .receive .delivers := s.nextInput_of_cons _ _ hin
    obtain ⟨t, hstep, e⟩ := h.step_byteEffect hbusy hn hq
    by_cases hidle : t.sc = .idle
    · exact ⟨1, t, by simp, run_succ_of_step 0 s t hstep, hidle⟩
    · have hturns : t.inputs = receiveTurns (q.length + 1) ++ more := by
        rw [e.inputs_eq, State.takeByte_inputs, s.popInput_of_cons _ _ hin]
        rfl
      have hrest : t.rxq = q := by
        rw [e.streams_eq.2, State.takeByte_rxq, State.popInput_rxq, hq, List.tail_cons]
      obtain ⟨k, t', hk, hrun, hend⟩ := ih t (stepKeepsInvariant s t h hstep) hidle hrest hturns
      exact ⟨k + 1, t', Nat.succ_le_succ hk, (run_succ_of_step k s t hstep).trans hrun, hend⟩

/-! ## Where a frame may start (R143, R149) -/

/-- A frame may start at index `i` of `S`: the pair `CA CB` stands there, and `i` is 0 or at or above SCAN_ORIGIN. -/
def FrameAt (k : Nat) (S : List Byte) (i : Nat) : Prop :=
  S[i]? = some 0xCA ∧ S[i + 1]? = some 0xCB ∧ (i = 0 ∨ k ≤ i)

section
variable {k i L n : Nat} {S P : List Byte}

theorem FrameAt.lt (h : FrameAt k S i) : i + 1 < S.length := by
  obtain ⟨-, hb, -⟩ := h
  obtain ⟨hlt, -⟩ := List.getElem?_eq_some_iff.1 hb
  exact hlt

/-- Bytes behind a pair do not change that a frame may start there. -/
theorem frameAt_append_iff (hi : i + 1 < P.length) (R : List Byte) : FrameAt k (P ++ R) i ↔ FrameAt k P i := by
  rw [FrameAt, FrameAt, List.getElem?_append_left (by omega), List.getElem?_append_left hi]

theorem FrameAt.append (h : FrameAt k P i) (R : List Byte) : FrameAt k (P ++ R) i :=
  (frameAt_append_iff h.lt R).2 h

/-- A frame may start right behind `D` exactly when `CA` and `CB` follow, and SCAN_ORIGIN admits the index. -/
theorem frameAt_length_iff (D Q : List Byte) (a : Byte) :
    FrameAt k (D ++ a :: Q) D.length ↔ a = 0xCA ∧ Q.head? = some 0xCB ∧ (D = [] ∨ k ≤ D.length) := by
  simp [FrameAt, List.getElem?_append_right, List.head?_eq_getElem?]

theorem getElem?_of_lockIndex (h : lockIndex S = some L) : S[L]? = some 0xCA ∧ S[L + 1]? = some 0xCB := by
  induction S using lockIndex.induct generalizing L with
  | case1 a b t hab =>
    obtain ⟨rfl, rfl⟩ := hab
    cases h
    exact ⟨rfl, rfl⟩
  | case2 a b t hab ih =>
    rw [lockIndex, if_neg hab] at h
    obtain ⟨l, hl, rfl⟩ := Option.map_eq_some_iff.1 h
    exact ih hl
  | case3 S hS => simp [lockIndex] at h

/-- The pair at an index makes `lockIndex` answer, at that index or below. -/
theorem exists_lockIndex_le (ha : S[i]? = some 0xCA) (hb : S[i + 1]? = some 0xCB) :
    ∃ L ≤ i, lockIndex S = some L := by
  induction S using lockIndex.induct generalizing i with
  | case1 a b t hab => exact ⟨0, Nat.zero_le i, if_pos hab⟩
  | case2 a b t hab ih =>
    cases i with
    | zero => exact absurd ⟨Option.some.inj ha, Option.some.inj hb⟩ hab
    | succ i =>
      obtain ⟨L, hL, hlock⟩ := ih ha hb
      exact ⟨L + 1, Nat.succ_le_succ hL, by rw [lockIndex, if_neg hab, hlock]; rfl⟩
  | case3 S hS =>
    obtain ⟨hlt, -⟩ := List.getElem?_eq_some_iff.1 hb
    match S, hlt with
    | a :: b :: t, _ => exact absurd rfl (hS a b t)

theorem take_two_eq_iff : S.take 2 = [0xCA, 0xCB] ↔ S[0]? = some 0xCA ∧ S[1]? = some 0xCB := by
  match S with
  | [] | [_] => simp
  | a :: b :: t => simp

theorem frameAt_of_lockIndexFrom (h : lockIndexFrom k S = some L) : FrameAt k S L := by
  unfold lockIndexFrom at h
  split at h
  next hhead =>
    cases h
    obtain ⟨ha, hb⟩ := take_two_eq_iff.1 hhead
    exact ⟨ha, hb, .inl rfl⟩
  next =>
    obtain ⟨l, hl, rfl⟩ := Option.map_eq_some_iff.1 h
    obtain ⟨ha, hb⟩ := getElem?_of_lockIndex hl
    rw [List.getElem?_drop] at ha hb
    rw [Nat.add_comm l k]
    exact ⟨ha, hb, .inr (Nat.le_add_right k l)⟩

/-- The lock index is the least index at which a frame may start. -/
theorem FrameAt.exists_lock_le (h : FrameAt k S i) : ∃ L ≤ i, lockIndexFrom k S = some L := by
  obtain ⟨ha, hb, hk⟩ := h
  unfold lockIndexFrom
  by_cases hhead : S.take 2 = [0xCA, 0xCB]
  · exact ⟨0, Nat.zero_le i, if_pos hhead⟩
  · have hki : k ≤ i := by
      obtain rfl | hki := hk
      · exact absurd (take_two_eq_iff.2 ⟨ha, hb⟩) hhead
      · exact hki
    have hadd : k + (i - k) = i := Nat.add_sub_cancel' hki
    obtain ⟨l, hl, hlock⟩ : ∃ l ≤ i - k, lockIndex (S.drop k) = some l :=
      exists_lockIndex_le (by rwa [List.getElem?_drop, hadd]) (by rwa [List.getElem?_drop, ← Nat.add_assoc, hadd])
    exact ⟨l + k, by omega, by rw [if_neg hhead, hlock]; rfl⟩

/-- No frame starts below the lock index. -/
theorem FrameAt.lock_le (h : FrameAt k S i) (hL : lockIndexFrom k S = some L) : L ≤ i := by
  obtain ⟨L', hle, hL'⟩ := h.exists_lock_le
  cases hL.symm.trans hL'
  exact hle

/-- A frame that starts in a part of `S` starts in `S`. -/
theorem FrameAt.lock_le_of_take (h : FrameAt k (S.take n) i) (hL : lockIndexFrom k S = some L) : L ≤ i := by
  have hS := h.append (S.drop n)
  rw [List.take_append_drop] at hS
  exact hS.lock_le hL

/-- With SCAN_ORIGIN 0 the lock index of R149 is that of R143. -/
theorem lockIndexFrom_zero (S : List Byte) : lockIndexFrom 0 S = lockIndex S := by
  unfold lockIndexFrom
  split
  next h =>
    match S, h with
    | a :: b :: t, h =>
      obtain ⟨rfl, rfl⟩ : a = 0xCA ∧ b = 0xCB := by simpa using h
      rfl
  next => simp

end

/-! ## The discarded bytes -/

/-- With the bytes `D` discarded and `H` held, no later byte can make a frame start in `D`. -/
def Passed (k : Nat) (D H : List Byte) : Prop := ∀ Q i, i < D.length → ¬ FrameAt k (D ++ (H ++ Q)) i

section
variable {k i : Nat} {a b : Byte} {D H : List Byte}

theorem Passed.nil (k : Nat) (H : List Byte) : Passed k [] H := fun _ i hi => absurd hi (Nat.not_lt_zero i)

/-- Holding a further byte discards nothing. -/
theorem Passed.hold (h : Passed k D H) (b : Byte) : Passed k D (H ++ [b]) := by
  intro Q i hi
  rw [List.append_assoc]
  exact h ([b] ++ Q) i hi

/-- A held byte at which no frame can start may be discarded. -/
theorem Passed.discard (h : Passed k D (a :: H)) (ha : ∀ Q, ¬ FrameAt k (D ++ a :: (H ++ Q)) D.length) :
    Passed k (D ++ [a]) H := by
  intro Q i hi
  rw [List.append_assoc, List.singleton_append]
  obtain hlt | rfl : i < D.length ∨ i = D.length := by
    rw [List.length_append, List.length_singleton] at hi
    omega
  · exact h Q i hlt
  · exact ha Q

/-- A byte other than `CA` may be discarded. -/
theorem Passed.discard_of_ne (h : Passed k D (a :: H)) (ha : a ≠ 0xCA) : Passed k (D ++ [a]) H :=
  h.discard fun _ hf => ha ((frameAt_length_iff D _ a).1 hf).1

/-- A byte that a byte other than `CB` follows may be discarded. -/
theorem Passed.discard_of_next_ne (h : Passed k D (a :: b :: H)) (hb : b ≠ 0xCB) : Passed k (D ++ [a]) (b :: H) :=
  h.discard fun _ hf => by
    obtain ⟨-, hnext, -⟩ := (frameAt_length_iff D _ a).1 hf
    exact hb (Option.some.inj hnext)

/-- A byte below SCAN_ORIGIN, but the first, may be discarded. -/
theorem Passed.discard_of_lt (h : Passed k D (a :: H)) (hD : D ≠ []) (hk : D.length < k) : Passed k (D ++ [a]) H :=
  h.discard fun _ hf => by
    obtain ⟨-, -, h0 | hle⟩ := (frameAt_length_iff D _ a).1 hf
    · exact hD h0
    · omega

theorem Passed.le_of_frameAt (h : Passed k D H) {R : List Byte} (hf : FrameAt k (D ++ H ++ R) i) : D.length ≤ i := by
  rw [List.append_assoc] at hf
  exact Nat.le_of_not_lt fun hlt => h R i hlt hf

end

/-! ## The frame buffer -/

/-- The valid bytes of `fb` are `H` (R24, R25). -/
def Held (fb : Vector Byte 8) (H : List Byte) : Prop := fb.toList.take H.length = H

section
variable {fb : Vector Byte 8} {H : List Byte}

theorem Held.nil (fb : Vector Byte 8) : Held fb [] := rfl

theorem Held.store (h : Held fb H) (hl : H.length < 8) (b : Byte) : Held (fb.setIfInBounds H.length b) (H ++ [b]) := by
  unfold Held at h ⊢
  have hstored : (fb.toList.set H.length b)[H.length]? = some b := List.getElem?_set_self (by simpa using hl)
  rw [List.length_append, List.length_singleton, Vector.toList_setIfInBounds, List.take_add_one,
    List.take_set_of_le (Nat.le_refl _), h, hstored]
  rfl

theorem Held.getElem (h : Held fb H) {i : Nat} (hi : i < H.length) (h8 : i < 8) : fb[i] = H[i] := by
  have hlist : fb.toList[i]? = H[i]? := by
    rw [← List.getElem?_take_of_lt hi, h]
  simpa [h8, hi] using hlist

theorem Held.toList_of_full (h : Held fb H) (hl : H.length = 8) : fb.toList = H := by
  rw [← h, List.take_of_length_le (by simp [hl])]

end

/-! ## A transaction in progress -/

/-- The transaction of `s` where the bytes `P` are consumed, `d` of them discarded and `n` held in `fb`, while `R`
waits. -/
def State.scanned (s : State) (c : ScState) (P : List Byte) (d n : Nat) (fb : Vector Byte 8) (R : List Byte)
    (turns : List Input) : State :=
  { s with
    sc := c, fb := fb, fbLen := BitVec.ofNat 4 n, firstB := P.headD s.firstB, rxCount := BitVec.ofNat 32 P.length
    discCount := BitVec.ofNat 32 d, rxq := R, inputs := turns }

/-- How the consumed bytes are split in each engine state: `D` discarded, `H` held (R130, R133 to R137). -/
inductive ScanPhase (o : ScanOrigin) : ScState → List Byte → List Byte → Prop where
  | head {H : List Byte} (ho : o ≠ .zero) (hl : H.length < 2) : ScanPhase o .head [] H
  | skip {D : List Byte} (ho : o = .eight) (hlo : 2 ≤ D.length) (hhi : D.length < 8) : ScanPhase o .skip D []
  | seek {D : List Byte} (hk : originValue o ≤ D.length) : ScanPhase o .seek D []
  | confirm {D : List Byte} (hk : originValue o ≤ D.length) : ScanPhase o .confirm D [0xCA]
  | collect {D H : List Byte} (hk : D = [] ∨ originValue o ≤ D.length) (hl : H.length < 6) :
    ScanPhase o .collect D (0xCA :: 0xCB :: H)

/-- The transaction of `s` has consumed `P`, by discarding `D`, in which no frame starts, and holding `H`. -/
structure Scanned (s : State) (P R : List Byte) (turns : List Input) (c : ScState) (D H : List Byte) (t : State) :
    Prop where
  split : D ++ H = P
  phase : ScanPhase s.cfg.scanOrigin c D H
  passed : Passed (originValue s.cfg.scanOrigin) D H
  held : Held t.fb H
  state_eq : t = s.scanned c P D.length H.length t.fb R turns

/-- The answer is a next state in which the transaction of `s` has consumed `P`. -/
def AnswersScanned (s : State) (P R : List Byte) (turns : List Input) (o : Host.Outcome State Fault Refusal) : Prop :=
  ∃ c D H t, o = .next t ∧ Scanned s P R turns c D H t

section
variable {s t : State} {b : Byte} {c : ScState} {P R D H : List Byte} {fb : Vector Byte 8} {turns more : List Input}
  {d n k L : Nat}

theorem AnswersScanned.intro {o : Host.Outcome State Fault Refusal} (split : D ++ H = P)
    (phase : ScanPhase s.cfg.scanOrigin c D H) (passed : Passed (originValue s.cfg.scanOrigin) D H) (held : Held fb H)
    (ho : o = .next (s.scanned c P D.length H.length fb R turns)) : AnswersScanned s P R turns o :=
  ⟨c, D, H, _, ho, split, phase, passed, held, rfl⟩

/-! ### What each operation does to it -/

/-- Below the limit a counter is its value. -/
theorem ofNat_eq_ofNat_iff {m : Nat} (hn : n < 2 ^ 32) (hm : m < 2 ^ 32) :
    BitVec.ofNat 32 n = BitVec.ofNat 32 m ↔ n = m := by
  rw [← BitVec.toNat_inj, BitVec.toNat_ofNat, BitVec.toNat_ofNat, Nat.mod_eq_of_lt hn, Nat.mod_eq_of_lt hm]

theorem satAdd32_ofNat (h : d + k < 2 ^ 32) : satAdd32 (BitVec.ofNat 32 d) k = BitVec.ofNat 32 (d + k) := by
  have hd : (BitVec.ofNat 32 d).toNat = d := Nat.mod_eq_of_lt (by omega)
  rw [satAdd32, hd, Nat.min_eq_left (by omega)]

theorem scanned_takeByte (h : P.length + 1 < 2 ^ 32) :
    (s.scanned c P d n fb (b :: R) turns).takeByte b = s.scanned c (P ++ [b]) d n fb R turns := by
  cases P with
  | nil => rfl
  | cons a P =>
    have hcount : BitVec.ofNat 32 (a :: P).length ≠ 0 := mt (ofNat_eq_ofNat_iff (by omega) (by decide)).1 (by simp)
    have hlen : (a :: P ++ [b]).length = (a :: P).length + 1 := List.length_append
    rw [State.takeByte, State.scanned, if_neg hcount, satAdd32_ofNat h, ← hlen]
    rfl

theorem scanned_discard (h : d + k < 2 ^ 32) :
    (s.scanned c P d n fb R turns).discard k = s.scanned c P (d + k) n fb R turns := by
  rw [State.discard, State.scanned, satAdd32_ofNat h]
  rfl

theorem toNat_ofNat_of_le_eight (h : n ≤ 8) : (BitVec.ofNat 4 n).toNat = n := Nat.mod_eq_of_lt (by omega)

theorem scanned_appendByte (h : n < 8) :
    (s.scanned c P d n fb R turns).appendByte b = s.scanned c P d (n + 1) (fb.setIfInBounds n b) R turns := by
  have hindex := toNat_ofNat_of_le_eight h.le
  simp [State.appendByte, State.scanned, hindex, BitVec.ofNat_add]

/-! ### The byte that comes next, in each engine state -/

/-- R133: the candidate is held, or the byte discarded. -/
theorem scan_seek (hk : originValue s.cfg.scanOrigin ≤ D.length) (hp : Passed (originValue s.cfg.scanOrigin) D [])
    (hlen : D.length + 1 < 2 ^ 32) :
    AnswersScanned s (D ++ [b]) R turns (byteRule b (s.scanned .seek (D ++ [b]) D.length 0 fb R turns)) := by
  rw [byteRule_of_seek rfl, seekByte]
  split
  next hb =>
    obtain rfl : b = 0xCA := hb
    exact .intro rfl (.confirm hk) (hp.hold _) ((Held.nil fb).store (by decide) _) rfl
  next hb =>
    refine .intro (D := D ++ [b]) (List.append_nil _) (.seek ?_) ((hp.hold b).discard_of_ne hb) (Held.nil fb) ?_
    · rw [List.length_append]
      omega
    · rw [scanned_discard hlen, List.length_append]
      rfl

/-- R134: the header is held, or the older candidate is discarded, or both bytes are. -/
theorem scan_confirm (hk : originValue s.cfg.scanOrigin ≤ D.length)
    (hp : Passed (originValue s.cfg.scanOrigin) D [0xCA]) (hheld : Held fb [0xCA]) (hlen : D.length + 2 < 2 ^ 32) :
    AnswersScanned s (D ++ [0xCA] ++ [b]) R turns
      (byteRule b (s.scanned .confirm (D ++ [0xCA] ++ [b]) D.length 1 fb R turns)) := by
  rw [byteRule_of_confirm rfl, confirmByte]
  split_ifs with hcb hca
  · obtain rfl : b = 0xCB := hcb
    exact .intro (by simp) (.collect (.inr hk) (by decide)) (hp.hold _) (hheld.store (by decide) _) rfl
  · obtain rfl : b = 0xCA := hca
    refine .intro rfl (.confirm ?_) ((hp.hold _).discard_of_next_ne (by decide)) hheld ?_
    · rw [List.length_append]
      omega
    · rw [scanned_discard (by omega), List.length_append]
      rfl
  · have hpass := ((hp.hold b).discard_of_next_ne hcb).discard_of_ne hca
    refine .intro (List.append_nil _) (.seek ?_) hpass (Held.nil fb) ?_
    · rw [List.length_append, List.length_append]
      omega
    · rw [scanned_discard hlen, List.length_append, List.length_append]
      rfl

/-- R135: the byte is held, and the frame stays incomplete below eight bytes. -/
theorem scan_collect (hk : D = [] ∨ originValue s.cfg.scanOrigin ≤ D.length) (hl : H.length < 5)
    (hp : Passed (originValue s.cfg.scanOrigin) D (0xCA :: 0xCB :: H)) (hheld : Held fb (0xCA :: 0xCB :: H)) :
    AnswersScanned s (D ++ 0xCA :: 0xCB :: H ++ [b]) R turns
      (byteRule b (s.scanned .collect (D ++ 0xCA :: 0xCB :: H ++ [b]) D.length (H.length + 2) fb R turns)) := by
  have hroom : (BitVec.ofNat 4 (H.length + 2)).toNat < 8 := by
    rw [toNat_ofNat_of_le_eight (by omega)]
    omega
  have hopen : BitVec.ofNat 4 (H.length + 3) ≠ 8 := fun h8 => by
    have := congrArg BitVec.toNat h8
    rw [toNat_ofNat_of_le_eight (by omega)] at this
    simp at this
    omega
  rw [byteRule_of_collect rfl hroom, scanned_appendByte (by omega), collectDone_of_open hopen]
  refine .intro (H := 0xCA :: 0xCB :: (H ++ [b])) (by simp) (.collect hk ?_) (hp.hold b)
    (hheld.store (by simp; omega) b) ?_
  · rw [List.length_append, List.length_singleton]
    omega
  · simp

/-- R137: the byte is discarded, and at the eighth the scan begins. -/
theorem scan_skip (ho : s.cfg.scanOrigin = .eight) (hlo : 2 ≤ D.length) (hhi : D.length < 8)
    (hp : Passed (originValue s.cfg.scanOrigin) D []) :
    AnswersScanned s (D ++ [b]) R turns (byteRule b (s.scanned .skip (D ++ [b]) D.length 0 fb R turns)) := by
  have hcfg : originValue s.cfg.scanOrigin = 8 := by rw [ho]; rfl
  have hlen : (D ++ [b]).length = D.length + 1 := List.length_append
  have hcount : (BitVec.ofNat 32 (D ++ [b]).length).toNat = D.length + 1 := by
    rw [hlen]
    exact Nat.mod_eq_of_lt (by omega)
  have hne : D ≠ [] := List.ne_nil_of_length_pos (by omega)
  have hpass : Passed (originValue s.cfg.scanOrigin) (D ++ [b]) [] := (hp.hold b).discard_of_lt hne (by omega)
  rw [byteRule_of_skip rfl, skipByte, scanned_discard (by omega), skipDone]
  split
  next h8 =>
    have : D.length + 1 = 8 := hcount.symm.trans (h8.trans hcfg)
    exact .intro (List.append_nil _) (.seek (by omega)) hpass (Held.nil fb) (by rw [hlen]; rfl)
  next h8 =>
    have : D.length + 1 ≠ 8 := fun h => h8 (hcount.trans (h.trans hcfg.symm))
    exact .intro (List.append_nil _) (.skip ho (by omega) (by omega)) hpass (Held.nil fb) (by rw [hlen]; rfl)

theorem two_le_originValue {o : ScanOrigin} (ho : o ≠ .zero) : 2 ≤ originValue o := by
  cases o with
  | zero => exact absurd rfl ho
  | two | eight => decide

/-- With the two bytes of HEAD dropped, the scan begins for SCAN_ORIGIN 2, and six more are to drop for 8 (R136). -/
theorem ScanPhase.afterHead {o : ScanOrigin} (ho : o ≠ .zero) (hD : D.length = 2) :
    ScanPhase o (afterHead o) D [] := by
  cases o with
  | zero => exact absurd rfl ho
  | two => exact .seek hD.ge
  | eight => exact .skip rfl hD.ge (by omega)

/-- R136 for the first byte: it is held. -/
theorem scan_head_first (ho : s.cfg.scanOrigin ≠ .zero) :
    AnswersScanned s [b] R turns (byteRule b (s.scanned .head [b] 0 0 fb R turns)) := by
  have hone : headDone (s.scanned .head [b] 0 1 (fb.setIfInBounds 0 b) R turns) = _ :=
    headDone_of_open (by decide : 1#4 ≠ 2#4)
  rw [byteRule_of_head rfl (by decide : (0#4).toNat < 8), scanned_appendByte (by decide), hone]
  exact .intro (D := []) rfl (.head ho (by simp)) (.nil _ _) ((Held.nil fb).store (by decide) b) rfl

/-- R136 for the second byte: the two are the header, or are discarded. -/
theorem scan_head_second {a : Byte} (ho : s.cfg.scanOrigin ≠ .zero) (hheld : Held fb [a]) :
    AnswersScanned s [a, b] R turns (byteRule b (s.scanned .head [a, b] 0 1 fb R turns)) := by
  have hheld2 : Held (fb.setIfInBounds 1 b) [a, b] := hheld.store (by simp) b
  have h0 : (fb.setIfInBounds 1 b)[0] = a := hheld2.getElem (by simp) (by decide)
  have h1 : (fb.setIfInBounds 1 b)[1] = b := hheld2.getElem (by simp) (by decide)
  have htwo : headDone (s.scanned .head [a, b] 0 2 (fb.setIfInBounds 1 b) R turns) = _ := headDone_of_two rfl
  rw [byteRule_of_head rfl (by decide : (1#4).toNat < 8), scanned_appendByte (by decide), htwo]
  split
  next hhead =>
    obtain ⟨rfl, rfl⟩ : a = 0xCA ∧ b = 0xCB := ⟨h0.symm.trans hhead.1, h1.symm.trans hhead.2⟩
    exact .intro (D := []) rfl (.collect (.inl rfl) (by decide)) (.nil _ _) hheld2 rfl
  next hhead =>
    have hpass1 : Passed (originValue s.cfg.scanOrigin) [a] [b] := (Passed.nil _ [a, b]).discard fun Q hf => by
      obtain ⟨ha, hb, -⟩ := (frameAt_length_iff [] _ a).1 hf
      exact hhead ⟨h0.trans ha, h1.trans (Option.some.inj hb)⟩
    have hpass2 : Passed (originValue s.cfg.scanOrigin) [a, b] [] :=
      hpass1.discard_of_lt (List.cons_ne_nil a []) (two_le_originValue ho)
    rw [scanned_discard (by decide)]
    exact .intro (List.append_nil _) (.afterHead ho rfl) hpass2 (Held.nil _) rfl

theorem ScanPhase.busy {o : ScanOrigin} (h : ScanPhase o c D H) : c ≠ .idle := by
  cases h <;> simp

theorem Scanned.fields (h : Scanned s P R turns c D H t) : t.sc = c ∧ t.rxq = R ∧ t.inputs = turns := by
  rw [h.state_eq]
  exact ⟨rfl, rfl, rfl⟩

/-- With a byte waiting, the engine's turn runs the state's rule on the bytes consumed so far and that byte. -/
theorem Scanned.step_eq (h : Scanned s P (b :: R) (.receive .delivers :: more) c D H t) (hlen : P.length + 1 < 2 ^ 32) :
    step t = byteRule b (s.scanned c (P ++ [b]) D.length H.length t.fb R more) := by
  obtain ⟨hsc, hq, hin⟩ := h.fields
  have hbusy : t.sc ≠ .idle := hsc ▸ h.phase.busy
  have htake : State.takeByte b { t with inputs := more } =
      s.scanned c (P ++ [b]) D.length H.length t.fb R more := by
    rw [← scanned_takeByte hlen]
    conv_lhs => rw [h.state_eq]
    rfl
  rw [step_of_receive t .delivers more hin, receiveStep_of_byte { t with inputs := more } b R hbusy hq, htake]

/-- A turn with a byte waiting takes that byte into the scan, as long as no frame is complete with it. -/
theorem Scanned.step_scanned (h : Scanned s P (b :: R) (.receive .delivers :: more) c D H t)
    (hlen : P.length + 1 < 2 ^ 32)
    (hopen : ∀ i, FrameAt (originValue s.cfg.scanOrigin) (P ++ [b]) i → P.length + 1 < i + 8) :
    AnswersScanned s (P ++ [b]) R more (step t) := by
  rw [h.step_eq hlen]
  obtain ⟨rfl, phase, passed, held, -⟩ := h
  cases phase with
  | head ho hl =>
    match H, hl with
    | [], _ => exact scan_head_first ho
    | [a], _ => exact scan_head_second ho held
  | skip ho hlo hhi =>
    rw [List.append_nil]
    exact scan_skip ho hlo hhi passed
  | seek hk =>
    rw [List.append_nil] at hlen ⊢
    exact scan_seek hk passed hlen
  | confirm hk =>
    rw [List.length_append] at hlen
    exact scan_confirm hk passed held hlen
  | @collect _ H hk =>
    have hstart := ((frameAt_length_iff D (0xCB :: H) 0xCA).2 ⟨rfl, rfl, hk⟩).append [b]
    have := hopen _ hstart
    rw [List.length_append, List.length_cons, List.length_cons] at this
    exact scan_collect hk (by omega) passed held

end

/-- The start of a transaction has consumed nothing (R130). -/
theorem State.FreshReceive.scanned {s : State} (h : s.FreshReceive) :
    ∃ c, Scanned s [] s.rxq s.inputs c [] [] s := by
  obtain ⟨hsc, hlen, hrx, hdisc⟩ := h
  have phase : ScanPhase s.cfg.scanOrigin (startState s.cfg.scanOrigin) [] [] := by
    cases ho : s.cfg.scanOrigin with
    | zero => exact .seek (Nat.le_refl 0)
    | two | eight => exact .head (by simp) (by decide)
  refine ⟨_, rfl, phase, .nil _ _, .nil _, ?_⟩
  cases s
  simp_all [State.scanned]

theorem receiveTurns_succ (n : Nat) (more : List Input) :
    receiveTurns (n + 1) ++ more = receiveTurns n ++ (.receive .delivers :: more) := by
  simp [receiveTurns, List.replicate_succ']

/-- As many turns as there are bytes in `P` take the transaction through `P`, as long as no frame is complete in it. By
induction on the last byte of `P`. -/
theorem run_scanned {s : State} (hs : s.FreshReceive) (P R : List Byte) (more : List Input) (hq : s.rxq = P ++ R)
    (hlen : P.length < 2 ^ 32) (hopen : ∀ i, FrameAt (originValue s.cfg.scanOrigin) P i → P.length < i + 8)
    (hin : s.inputs = receiveTurns P.length ++ more) : AnswersScanned s P R more (run P.length s) := by
  induction P using List.reverseRecOn generalizing R more with
  | nil =>
    obtain ⟨c, h⟩ := hs.scanned
    have hturns : s.inputs = more := hin
    have hwait : s.rxq = R := hq
    exact ⟨c, [], [], s, rfl, hwait ▸ hturns ▸ h⟩
  | append_singleton P b ih =>
    rw [List.append_assoc, List.singleton_append] at hq
    rw [List.length_append, List.length_singleton] at hlen hin hopen ⊢
    have hbefore (i : Nat) (hi : FrameAt (originValue s.cfg.scanOrigin) P i) : P.length < i + 8 :=
      Nat.lt_of_succ_lt (hopen i (hi.append [b]))
    obtain ⟨c, D, H, t, hrun, h⟩ :=
      ih (b :: R) (.receive .delivers :: more) hq (by omega) hbefore (hin.trans (receiveTurns_succ _ _))
    obtain ⟨c', D', H', t', hstep, h'⟩ := h.step_scanned hlen hopen
    exact ⟨c', D', H', t', (run_add _ 1 s t hrun).trans (run_succ_of_step 0 t t' hstep), h'⟩

section
variable {s t : State} {c : ScState} {P R D H S : List Byte} {turns more : List Input} {L : Nat}

/-- The counters of a scan are the numbers of bytes consumed and discarded. -/
theorem Scanned.counts (h : Scanned s P R turns c D H t) (hlen : P.length < 2 ^ 32) :
    t.rxCount.toNat = P.length ∧ t.discCount.toNat = D.length := by
  obtain ⟨rfl, -, -, -, ht⟩ := h
  rw [List.length_append] at hlen
  rw [ht]
  exact ⟨Nat.mod_eq_of_lt (by rwa [List.length_append]), Nat.mod_eq_of_lt (by omega)⟩

/-- In COLLECT a frame starts right behind the discarded bytes. -/
theorem Scanned.frameAt_of_collect (h : Scanned s P R turns .collect D H t) :
    FrameAt (originValue s.cfg.scanOrigin) P D.length := by
  obtain ⟨rfl, phase, -, -, -⟩ := h
  cases phase with
  | collect hk => exact (frameAt_length_iff D _ 0xCA).2 ⟨rfl, rfl, hk⟩

/-- Once the pair at the lock index is consumed, the engine collects the frame that starts there (R143, R149). -/
theorem Scanned.locked (h : Scanned s P R turns c D H t)
    (hL : lockIndexFrom (originValue s.cfg.scanOrigin) (P ++ R) = some L) (hle : L + 2 ≤ P.length) :
    c = .collect ∧ D.length = L := by
  have hcollect : c = .collect → L ≤ D.length := by
    rintro rfl
    exact (h.frameAt_of_collect.append R).lock_le hL
  obtain ⟨rfl, phase, passed, -, -⟩ := h
  have hD : D.length ≤ L := passed.le_of_frameAt (frameAt_of_lockIndexFrom hL)
  rw [List.length_append] at hle
  cases phase with
  | collect => exact ⟨rfl, Nat.le_antisymm hD (hcollect rfl)⟩
  | head ho hl => simp at hle; omega
  | skip | seek | confirm => simp at hle; omega

/-- In COLLECT with two bytes held, they are the header (R143). -/
theorem Scanned.header_of_collect (h : Scanned s P R turns .collect D H t) (hP : P.length = D.length + 2) :
    t.fb[0] = 0xCA ∧ t.fb[1] = 0xCB ∧ t.fbLen = 2 := by
  obtain ⟨rfl, phase, -, held, state_eq⟩ := h
  have hlen : t.fbLen = BitVec.ofNat 4 H.length := by
    rw [state_eq]
    rfl
  rw [List.length_append, Nat.add_left_cancel_iff] at hP
  cases phase with
  | collect => exact ⟨held.getElem (by simp) (by decide), held.getElem (by simp) (by decide), by rw [hlen, hP]; rfl⟩

/-- In the scan for SCAN_ORIGIN 0 the engine is in CONFIRM exactly when the last byte consumed was `CA` (R143). -/
theorem Scanned.seek_or_confirm (h : Scanned s P R turns c D H t) (ho : s.cfg.scanOrigin = .zero)
    (hc : c ≠ .collect) :
    (P.getLast? = some 0xCA ∧ c = .confirm ∧ D.length + 1 = P.length) ∨
      (P.getLast? ≠ some 0xCA ∧ c = .seek ∧ D.length = P.length) := by
  obtain ⟨rfl, phase, passed, -, -⟩ := h
  cases phase with
  | head hne => exact absurd ho hne
  | skip h8 => cases ho.symm.trans h8
  | collect => exact absurd rfl hc
  | confirm => exact .inl ⟨by simp, rfl, by simp⟩
  | seek =>
    refine .inr ⟨fun hlast => ?_, rfl, by simp⟩
    rw [List.append_nil] at hlast
    obtain ⟨E, rfl⟩ := List.getLast?_eq_some_iff.1 hlast
    have hk : originValue s.cfg.scanOrigin ≤ E.length := by
      rw [ho]
      exact Nat.zero_le _
    have hstart : FrameAt (originValue s.cfg.scanOrigin) (E ++ 0xCA :: [0xCB]) E.length :=
      (frameAt_length_iff E [0xCB] 0xCA).2 ⟨rfl, rfl, .inr hk⟩
    exact passed [0xCB] E.length (by simp) (by simpa using hstart)

/-- The scan through the first `n` bytes that wait. -/
theorem scanned_of_take (hs : s.FreshReceive) (n : Nat) (hq : s.rxq = S) (hn : n ≤ S.length) (hlt : n < 2 ^ 32)
    (hopen : ∀ i, FrameAt (originValue s.cfg.scanOrigin) (S.take n) i → n < i + 8)
    (hin : s.inputs = receiveTurns n ++ more) : AnswersScanned s (S.take n) (S.drop n) more (run n s) := by
  have hlen : (S.take n).length = n := List.length_take_of_le hn
  have h := run_scanned hs (S.take n) (S.drop n) more (by rw [hq, List.take_append_drop])
  rw [hlen] at h
  exact h hlt hopen hin

end

/-! ## First-match lock (R143) -/

/-- Settles O43: the run scans the first `m` bytes, and the phases of the scan are those of R143. -/
theorem scanLocksOnFirstPair : Obligations.ScanLocksOnFirstPair := by
  intro s S m more hs ho hq hS hm hin
  have hk : originValue s.cfg.scanOrigin = 0 := by rw [ho]; rfl
  have hlen : (S.take m).length = m := List.length_take_of_le hm
  constructor
  · intro hnone
    have hno (i : Nat) : ¬ FrameAt (originValue s.cfg.scanOrigin) (S.take m) i := fun hi => by
      obtain ⟨L, -, hL⟩ := hi.exists_lock_le
      rw [hk, lockIndexFrom_zero, hnone] at hL
      cases hL
    obtain ⟨c, D, H, t, hrun, h⟩ := scanned_of_take hs m hq hm (by omega) (fun i hi => absurd hi (hno i)) hin
    obtain ⟨hrx, hdisc⟩ := h.counts (by omega)
    have hc : c ≠ .collect := by
      rintro rfl
      exact hno _ h.frameAt_of_collect
    obtain ⟨hsc, hwait, -⟩ := h.fields
    refine ⟨t, hrun, hwait, hrx.trans hlen, ?_⟩
    obtain ⟨hlast, rfl, hD⟩ | ⟨hlast, rfl, hD⟩ := h.seek_or_confirm ho hc
    · rw [if_pos hlast]
      exact ⟨hsc, by omega⟩
    · rw [if_neg hlast]
      exact ⟨hsc, by omega⟩
  · rintro L hL rfl
    rw [← lockIndexFrom_zero, ← hk] at hL
    have hopen (i : Nat) (hi : FrameAt (originValue s.cfg.scanOrigin) (S.take (L + 2)) i) : L + 2 < i + 8 := by
      have := hi.lock_le_of_take hL
      omega
    obtain ⟨c, D, H, t, hrun, h⟩ := scanned_of_take hs (L + 2) hq hm (by omega) hopen hin
    rw [← List.take_append_drop (L + 2) S] at hL
    obtain ⟨rfl, rfl⟩ := h.locked hL hlen.ge
    obtain ⟨-, hdisc⟩ := h.counts (by omega)
    obtain ⟨hsc, hwait, -⟩ := h.fields
    obtain ⟨hca, hcb, hheld⟩ := h.header_of_collect hlen
    exact ⟨t, hrun, hsc, hwait, hca, hcb, hheld, hdisc⟩

/-! ## The outcome at the lock (R144, R148, R149) -/

/-- Eight bytes that begin with the header are OK, FOOTER or ECHO (R148). -/
theorem decFrame_of_header {raw : List Byte} (hlen : raw.length = 8) (hh : raw.take 2 = [0xCA, 0xCB]) (exp : Byte) :
    decFrame raw exp = .footer ∨ decFrame raw exp = .echo ∨ ∃ p, decFrame raw exp = .ok p := by
  obtain ⟨v, hv⟩ := exists_decOutcome hlen.le exp
  rw [hv.decFrame_eq]
  cases hv with
  | empty | ack => cases hlen
  | short _ _ hlt => omega
  | header _ hne => exact absurd hh hne
  | footer => exact .inl rfl
  | echo => exact .inr (.inl rfl)
  | ok p0 p1 p2 => exact .inr (.inr ⟨_, rfl⟩)

/-- The eighth byte of a frame ends the transaction with the outcome of `dec` on the eight (R135). -/
theorem Scanned.step_last {s t : State} {b : Byte} {P R D H : List Byte} {more : List Input}
    (h : Scanned s P (b :: R) (.receive .delivers :: more) .collect D H t) (hH : H.length = 7)
    (hlen : P.length + 1 < 2 ^ 32) :
    ∃ fb : Vector Byte 8, fb.toList = H ++ [b] ∧
      step t = .next ((s.scanned .collect (P ++ [b]) D.length 8 fb R more).finish (decFrame fb.toList s.expR)) := by
  have hfull : (t.fb.setIfInBounds H.length b).toList = H ++ [b] :=
    (h.held.store (by omega) b).toList_of_full (by simp [hH])
  rw [hH] at hfull
  have hdone : collectDone (s.scanned .collect (P ++ [b]) D.length 8 (t.fb.setIfInBounds 7 b) R more) = _ :=
    collectDone_of_full rfl
  refine ⟨_, hfull, ?_⟩
  rw [h.step_eq hlen, hH, byteRule_of_collect rfl (by decide : (7#4).toNat < 8), scanned_appendByte (by decide), hdone]
  rfl

/-- A transaction whose frame is complete ends with the outcome of `dec` on it, whatever waits behind (R144 part 1,
R149). -/
theorem run_at_lock {s : State} {S : List Byte} {L : Nat} {more : List Input} (hs : s.FreshReceive) (hq : s.rxq = S)
    (hL : lockIndexFrom (originValue s.cfg.scanOrigin) S = some L) (hS : L + 8 ≤ S.length) (hlt : L + 8 < 2 ^ 32)
    (hin : s.inputs = receiveTurns (L + 8) ++ more) :
    ∃ fb : Vector Byte 8, fb.toList = (S.drop L).take 8 ∧
      run (L + 8) s = .next ((s.scanned .collect (S.take (L + 8)) L 8 fb (S.drop (L + 8)) more).finish
        (decFrame fb.toList s.expR)) := by
  have hopen (i : Nat) (hi : FrameAt (originValue s.cfg.scanOrigin) (S.take (L + 7)) i) : L + 7 < i + 8 := by
    have := hi.lock_le_of_take hL
    omega
  obtain ⟨c, D, H, t, hrun, h⟩ := scanned_of_take hs (L + 7) hq (by omega) (by omega) hopen
    (hin.trans (receiveTurns_succ _ _))
  have hlen : (S.take (L + 7)).length = L + 7 := List.length_take_of_le (by omega)
  rw [← List.take_append_drop (L + 7) S] at hL
  obtain ⟨rfl, rfl⟩ := h.locked hL (by omega)
  have hH : H.length = 7 := by
    have := congrArg List.length h.split
    rw [List.length_append] at this
    omega
  have hnext : S.drop (D.length + 7) = S[D.length + 7] :: S.drop (D.length + 8) := List.drop_eq_getElem_cons (by omega)
  have htake : S.take (D.length + 7) ++ [S[D.length + 7]] = S.take (D.length + 8) :=
    List.take_append_getElem (by omega)
  rw [hnext] at h
  obtain ⟨fb, hfb, hstep⟩ := h.step_last hH (by omega)
  refine ⟨fb, ?_, ?_⟩
  · rw [hfb, List.take_drop, ← htake, ← h.split, List.append_assoc, List.drop_left]
  · rw [run_add (D.length + 7) 1 s t hrun, run_succ_of_step 0 t _ hstep, htake]
    rfl

/-- Settles O44: the closed form is `run_at_lock`, and the frame begins with the header. -/
theorem transactionOutcomeAtLock : Obligations.TransactionOutcomeAtLock := by
  intro s S L more v hs hq hlt hL hS hin hv
  obtain ⟨fb, hfb, hrun⟩ := run_at_lock hs hq hL hS (by omega) hin
  have hframe : ((S.drop L).take 8).length = 8 := by simp; omega
  have hheader : ((S.drop L).take 8).take 2 = [0xCA, 0xCB] := by
    obtain ⟨ha, hb, -⟩ := frameAt_of_lockIndexFrom hL
    rw [List.take_take, Nat.min_eq_left (by decide), take_two_eq_iff]
    simpa [List.getElem?_drop] using ⟨ha, hb⟩
  refine ⟨hv ▸ decFrame_of_header hframe hheader s.expR, fb, hfb, ?_⟩
  have hfirst : (S.take (L + 8)).headD s.firstB = S.headD 0 := by
    cases S with
    | nil => simp at hS
    | cons b S => rfl
  rw [hrun, hfb, ← hv, State.finish, State.scanned, hfirst, List.length_take_of_le hS]
  cases v <;> rfl

/-! ## The outcome of a `Timeout` (R144, R149) -/

/-- The outcome of a `Timeout` by the bytes consumed (R138). -/
theorem timeoutVerdict_eq (S : List Byte) (b : Byte) (hS : S.length < 2 ^ 32) :
    timeoutVerdict (BitVec.ofNat 32 S.length) (S.headD b) =
      if S = [] then .noResponse else if S = [0x6F] then .ackOnly else .short := by
  have hzero : BitVec.ofNat 32 S.length = 0 ↔ S = [] :=
    (ofNat_eq_ofNat_iff hS (by decide)).trans List.length_eq_zero_iff
  have hack : BitVec.ofNat 32 S.length = 1 ∧ S.headD b = ackByte ↔ S = [0x6F] := by
    rw [show (1 : Word32) = BitVec.ofNat 32 1 from rfl, ofNat_eq_ofNat_iff hS (by decide), List.length_eq_one_iff]
    constructor
    · rintro ⟨⟨a, rfl⟩, ha⟩
      exact congrArg (fun a => [a]) ha
    · rintro rfl
      exact ⟨⟨_, rfl⟩, rfl⟩
  unfold timeoutVerdict
  simp only [hzero, hack]

/-- With nothing left to take, the engine's turn ends the transaction by a `Timeout` (R138). -/
theorem Scanned.step_timeout {s t : State} {c : ScState} {P D H : List Byte} {more : List Input}
    (h : Scanned s P [] (.receive .delivers :: more) c D H t) :
    step t = .next ((s.scanned c P D.length H.length t.fb [] more).finish
      (timeoutVerdict (BitVec.ofNat 32 P.length) (P.headD s.firstB))) := by
  obtain ⟨hsc, hq, hin⟩ := h.fields
  have hbusy : t.sc ≠ .idle := hsc ▸ h.phase.busy
  rw [step_of_receive t .delivers more hin, receiveStep_of_empty { t with inputs := more } hbusy hq]
  conv_lhs => rw [h.state_eq]
  rfl

/-- Settles O45: the scan goes through all of `S`, and the turn after it is the `Timeout`. -/
theorem transactionOutcomeAtTimeout : Obligations.TransactionOutcomeAtTimeout := by
  intro s S more hs hq hlt hshort hin
  have hopen (i : Nat) (hi : FrameAt (originValue s.cfg.scanOrigin) S i) : S.length < i + 8 := by
    obtain ⟨L, hle, hL⟩ := hi.exists_lock_le
    have := hshort L hL
    omega
  obtain ⟨c, D, H, t, hrun, h⟩ :=
    run_scanned hs S [] _ (hq.trans S.append_nil.symm) hlt hopen (hin.trans (receiveTurns_succ _ _))
  have hstep := h.step_timeout
  rw [timeoutVerdict_eq S s.firstB hlt] at hstep
  refine ⟨_, (run_add _ 1 s t hrun).trans (run_succ_of_step 0 t _ hstep), rfl, rfl, rfl, Nat.mod_eq_of_lt hlt, ?_, ?_⟩
  · split_ifs <;> rfl
  · split_ifs <;> rfl

/-! ## The fast path (R148) -/

/-- Settles O48: RECV starts the transaction, whose frame begins at index 0, and DEC is `dec` of the same bytes. -/
theorem fastPathAgreesWithDec : Obligations.FastPathAgreesWithDec := by
  intro s exp S q more hidle hlen hhead hq hin
  have hrecv : step s = .next (State.startReceive exp { s with inputs := receiveTurns 8 ++ more }) := by
    rw [step_of_word s .host [0x03, exp] [] (.recv exp) _ hin (decodeEncodeRoundTrip (.recv exp) [] rfl).1, exec_recv]
    exact congrArg _ (whenIdle_of_idle _ _ hidle)
  have hlock : lockIndexFrom (originValue s.cfg.scanOrigin) (S ++ q) = some 0 := by
    unfold lockIndexFrom
    rw [List.take_append_of_le_length (by omega), if_pos hhead]
  obtain ⟨fb, hfb, hrun⟩ := run_at_lock (L := 0) (more := more)
    (s := State.startReceive exp { s with inputs := receiveTurns 8 ++ more }) ⟨rfl, rfl, rfl, rfl⟩ hq hlock
    (by simp [hlen]) (by decide) rfl
  have hframe : fb.toList = S := by simp [hfb, ← hlen]
  have hwait : (S ++ q).drop 8 = q := by simp [← hlen]
  have hdec : exec (.dec exp 8 S) s = .next (s.record (decFrame S exp)) := by
    have hall : S.take (8 : Byte).toNat = S := List.take_of_length_le hlen.le
    rw [exec_dec_of_le (by decide), whenIdle_of_idle _ s hidle, hall]
  rw [hframe] at hrun
  exact ⟨_, _, (run_succ_of_step 8 s _ hrecv).trans hrun, hdec, rfl, hwait, rfl, rfl, rfl⟩

end Sys2Proof.Machine

/-! The statements of 43_control.md: the reserved op bytes (R172), XFER as ENC and RECV in one step (R170), and RESET
(R171). -/

namespace Sys2Proof.Machine

/-! ## The reserved op bytes (R82, R172) -/

/-- The ten rows take every byte but the op bytes of the five operations: R82's table, gone through byte by byte. -/
theorem decodeReserved_eq_none_iff (op : Byte) : decodeReserved op = none ↔ op ∈ [0x01, 0x02, 0x03, 0x04, 0x0F] := by
  revert op
  decide

theorem exists_decodeReserved {op : Byte} (h1 : op ≠ 0x01) (h2 : op ≠ 0x02) (h3 : op ≠ 0x03) (h4 : op ≠ 0x04)
    (hF : op ≠ 0x0F) : ∃ i, decodeReserved op = some i := by
  have hop : op ∉ [0x01, 0x02, 0x03, 0x04, 0x0F] := by simpa using ⟨h1, h2, h3, h4, hF⟩
  exact Option.ne_none_iff_exists'.1 fun h => hop ((decodeReserved_eq_none_iff op).1 h)

/-- A host instruction of one byte, other than RESET, is refused with RESERVED_OP, busy or not (R172, R207). -/
theorem exec_of_reserved {i : Instr} {op : Byte} (hp : i.port = .host) (hi : i ≠ .reset) (he : encode i = [op])
    (s : State) : exec i s = .next (s.refuse .reservedOp) := by
  cases i with
  | reserved00 | reserved05 | reserved06 | reserved08 | reserved0C | reserved0E | reserved10 | reserved20 | reserved40
  | reserved80 => rfl
  | reset => exact absurd rfl hi
  | enc | dec | recv | xfer => cases he
  | _ => cases hp

/-- Settles O52: one of the ten rows reads the byte, and each of them is refused. -/
theorem reservedWordRecordsMisuse : Obligations.ReservedWordRecordsMisuse := by
  intro op h1 h2 h3 h4 hF
  obtain ⟨i, hd⟩ := exists_decodeReserved h1 h2 h3 h4 hF
  obtain ⟨hp, he⟩ := decodeReserved_exact hd
  have hi : i ≠ .reset := by
    rintro rfl
    exact hF (List.singleton_inj.1 he).symm
  exact ⟨i, decodeHost_of_reserved hd, fun s => (exec_of_reserved hp hi he s).trans (congrArg _ (s.refuse_eq _))⟩

/-- Settles O19: the step runs the refused instruction on the state that keeps the bytes after the op byte. -/
theorem reservedOpIsRefused : Obligations.ReservedOpIsRefused := by
  intro s op t more h1 h2 h3 h4 hF hin
  obtain ⟨i, hd, hexec⟩ := reservedWordRecordsMisuse op h1 h2 h3 h4 hF
  exact (step_of_word s .host (op :: t) t i more hin (hd t)).trans (hexec _)

/-- Settles O20: each row is a host instruction of one byte. -/
theorem reservedRowsRecordMisuse : Obligations.ReservedRowsRecordMisuse := by
  intro s t ht
  have row {i : Instr} {op : Byte} (hp : i.port = .host) (hi : i ≠ .reset) (he : encode i = [op]) :
      exec i s = .next t := by
    rw [exec_of_reserved hp hi he, State.refuse_eq, ht]
  exact ⟨row rfl nofun rfl, row rfl nofun rfl, fun _ => row rfl nofun rfl, fun _ => row rfl nofun rfl,
    fun _ => row rfl nofun rfl, row rfl nofun rfl, fun _ => row rfl nofun rfl, fun _ => row rfl nofun rfl,
    fun _ => row rfl nofun rfl, fun _ => row rfl nofun rfl⟩

/-! ## XFER (R170) -/

/-- In IDLE XFER sends the frame, and from there starts the transaction that expects `cmd` (R170). -/
theorem exec_xfer_of_idle {s : State} (h : s.sc = .idle) (cmd p0 p1 : Byte) :
    exec (.xfer cmd p0 p1) s = .next ((s.sendFrame cmd p0 p1).startReceive cmd) :=
  congrArg _ (whenIdle_of_idle _ s h)

/-- XFER has the guard of ENC (R59, R170). -/
theorem exec_xfer_of_busy {s : State} (h : s.sc ≠ .idle) (cmd p0 p1 : Byte) :
    exec (.xfer cmd p0 p1) s = .next (s.refuse .busy) :=
  congrArg _ (whenIdle_of_busy _ s h)

/-- Settles O15: XFER's word is read by the round trip, and R170's operation sends and starts, or records BUSY. -/
theorem xferSendsAndReceives : Obligations.XferSendsAndReceives := by
  intro cmd p0 p1 s
  refine ⟨(decodeEncodeRoundTrip (.xfer cmd p0 p1) [] rfl).1, fun hidle => ?_, fun hbusy => ?_⟩
  · rw [exec_xfer_of_idle hidle, State.sendFrame_eq, State.startReceive, startState_eq_ite, outWord]
  · rw [exec_xfer_of_busy hbusy, State.refuse_eq]

/-- Settles O16: ENC sends the frame and leaves the engine in IDLE, so RECV starts the transaction that XFER starts. -/
theorem encThenRecvIsXfer : Obligations.EncThenRecvIsXfer := by
  intro cmd p0 p1 s hidle
  have hsent : (s.sendFrame cmd p0 p1).sc = .idle := hidle
  refine ⟨s.sendFrame cmd p0 p1, ?_, ?_⟩
  · rw [exec_enc, sendOnWire_of_idle hidle]
  · rw [exec_recv, whenIdle_of_idle _ _ hsent, exec_xfer_of_idle hidle]

/-! ## RESET (R171) -/

/-- RESET has no guard: it is accepted while busy too (R171). -/
theorem exec_reset (s : State) : exec .reset s = .next s.resetRegs := rfl

/-- STATUS reads only registers that RESET clears, so it reads as at power-on (R35, R171). -/
theorem State.resetRegs_statusWord (s : State) : s.resetRegs.statusWord = 0x00000000 :=
  show State.reset.statusWord = 0x00000000 by decide

/-- Settles O17: RESET's word is read by the round trip, and `resetRegs` is the state R171 gives. -/
theorem resetRestoresRegisters : Obligations.ResetRestoresRegisters := by
  refine ⟨(decodeEncodeRoundTrip .reset [] rfl).1, ?_⟩
  rintro s _ rfl
  exact ⟨exec_reset s, s.resetRegs_statusWord⟩

end Sys2Proof.Machine

/-! The statements of 60_exceptions.md: the priority of the misuse conditions (R207), and the misuse record, which is
sticky and which no operation reads for anything else (R208). -/

namespace Sys2Proof.Machine

/-! ## The priority of the misuse conditions (R204, R207) -/

/-- The rows the table names RESERVED refuse with RESERVED_OP, busy or not (R172). -/
theorem exec_of_row_reserved {i : Instr} (h : i.row.mnemonic = "RESERVED") (s : State) :
    exec i s = .next (s.refuse .reservedOp) := by
  cases i with
  | reserved00 | reserved05 | reserved06 | reserved08 | reserved0C | reserved0E | reserved10 | reserved20 | reserved40
  | reserved80 => rfl
  | _ => simp [Instr.row, outRow, inRow] at h

/-- With no misuse recorded, a refusal records its own cause (R34, R206). -/
theorem State.refuse_of_unmisused {s : State} (h : s.misuse = false) (c : MisuseCause) :
    s.refuse c = { s with misuse := true, misuseCause := c } := by
  simp [State.refuse_eq, h]

/-- Settles O33: the reserved rows and the length of DEC are refused before the guard is asked, the other operations by
the guard, and RESET has none. -/
theorem misusePriority : Obligations.MisusePriority := by
  intro s hbusy hclean
  have first (c : MisuseCause) := State.refuse_of_unmisused hclean c
  refine ⟨fun i hrow => ?_, fun exp n raw hn => ?_, fun exp n raw hn => ?_, fun cmd p0 p1 => ⟨?_, ?_, ?_⟩,
    s.resetRegs, exec_reset s, s.resetRegs_misuse⟩
  · rw [exec_of_row_reserved hrow, first]
  · rw [exec_dec_of_gt hn, first]
  · rw [exec_dec_of_le hn, whenIdle_of_busy _ s hbusy, first]
  · rw [exec_enc, sendOnWire_of_busy hbusy, first]
  · rw [exec_xfer_of_busy hbusy, first]
  · rw [exec_recv, whenIdle_of_busy _ s hbusy, first]

/-! ## The misuse record is kept (R33, R34, R208) -/

section
variable {s t : State}

/-- A misuse on record stays with its cause under every instruction but RESET: a refusal records the first cause only. -/
theorem ExecEffect.misuse_kept {i : Instr} (e : ExecEffect i s t) (hm : s.misuse = true) :
    (t.misuse = true ∧ t.misuseCause = s.misuseCause) ∨ i = .reset := by
  cases e with
  | reset hi => exact .inr hi
  | refuse c => exact .inl ⟨s.refuse_misuse c, by simp [hm]⟩
  | send | record | start | exchange | arrive => exact .inl ⟨hm, rfl⟩

theorem ByteEffect.misuse_eq {b : Byte} {u : State} (e : ByteEffect b u t) :
    t.misuse = u.misuse ∧ t.misuseCause = u.misuseCause := by
  cases e <;> exact ⟨rfl, rfl⟩

/-- The receive engine neither records nor clears a misuse. -/
theorem ReceiveEffect.misuse_eq {tr : Transport} (e : ReceiveEffect tr s t) :
    t.misuse = s.misuse ∧ t.misuseCause = s.misuseCause := by
  cases e with
  | idle | error | timeout => exact ⟨rfl, rfl⟩
  | byte b q _ _ _ _ hb => exact hb.misuse_eq

/-- A step keeps a misuse on record with its cause, unless its word is read as RESET. -/
theorem StepEffect.misuse_kept (e : StepEffect s t) (hm : s.misuse = true) :
    (t.misuse = true ∧ t.misuseCause = s.misuseCause) ∨
      ∃ p bytes rest, s.nextInput = .word p bytes ∧ decode p bytes = .ok (.reset, rest) := by
  cases e with
  | word p bytes rest i _ hn hd he =>
    obtain hkept | rfl := he.misuse_kept (by simpa using hm)
    · exact .inl (by simpa using hkept)
    · exact .inr ⟨p, bytes, rest, hn, hd⟩
  | receive tr _ _ he => exact .inl (by simpa [hm] using he.misuse_eq)
  | arrive | flush => exact .inl (by simp [hm])

end

/-! ## Nothing else depends on the misuse record (R208) -/

/-- The same state with another misuse record. -/
def State.withMisuse (m : Bool) (c : MisuseCause) (s : State) : State := { s with misuse := m, misuseCause := c }

/-- An operation whose result depends on the misuse record only in the misuse record. -/
def IgnoresMisuse (op : State → State) : Prop :=
  ∀ s m c, ∃ m' c', op (s.withMisuse m c) = (op s).withMisuse m' c'

theorem ignoresMisuse_refuse (c : MisuseCause) : IgnoresMisuse (State.refuse c) := fun _ _ _ => ⟨_, _, rfl⟩

theorem ignoresMisuse_sendFrame (cmd p0 p1 : Byte) : IgnoresMisuse (State.sendFrame cmd p0 p1) :=
  fun _ m c => ⟨m, c, rfl⟩

theorem ignoresMisuse_record (v : Verdict) : IgnoresMisuse (State.record v) := fun _ m c => ⟨m, c, rfl⟩

theorem ignoresMisuse_startReceive (exp : Byte) : IgnoresMisuse (State.startReceive exp) := fun _ m c => ⟨m, c, rfl⟩

theorem ignoresMisuse_arriveAll (bs : List Byte) : IgnoresMisuse (State.arriveAll bs) := fun _ m c => ⟨m, c, rfl⟩

/-- RESET gives the record its reset value, whatever it was (R171). -/
theorem ignoresMisuse_resetRegs : IgnoresMisuse State.resetRegs := fun _ _ _ => ⟨false, .none, rfl⟩

theorem IgnoresMisuse.comp {f g : State → State} (hf : IgnoresMisuse f) (hg : IgnoresMisuse g) :
    IgnoresMisuse (fun s => f (g s)) := by
  intro s m c
  obtain ⟨m₁, c₁, h₁⟩ := hg s m c
  obtain ⟨m₂, c₂, h₂⟩ := hf (g s) m₁ c₁
  exact ⟨m₂, c₂, (congrArg f h₁).trans h₂⟩

/-- The guard asks for `sc` only (R59). -/
theorem ignoresMisuse_whenIdle {op : State → State} (hop : IgnoresMisuse op) : IgnoresMisuse (whenIdle op) := by
  intro s m c
  by_cases h : s.sc = .idle
  · rw [whenIdle_of_idle op s h, whenIdle_of_idle op (s.withMisuse m c) h]
    exact hop s m c
  · rw [whenIdle_of_busy op s h, whenIdle_of_busy op (s.withMisuse m c) h]
    exact ignoresMisuse_refuse .busy s m c

/-- Every instruction of the inbound wire lets its word's bytes arrive (R62; log entry 4). -/
theorem exec_of_lineIn {i : Instr} (h : i.port = .lineIn) (s : State) : exec i s = .next (s.arriveAll (encode i)) := by
  cases i with
  | inFrame | inOnOff | inVoltage | inCurrent | inElapsedTime | inCapacityAh | inCapacityWh | inTemperature
  | inCurrentLimit | inVoltageLimit | inTimer | ack => rfl
  | _ => cases h

/-- Every instruction is one operation, and it ignores the misuse record. -/
theorem exec_ignoresMisuse (i : Instr) : ∃ op : State → State, (∀ s, exec i s = .next (op s)) ∧ IgnoresMisuse op := by
  have send (cmd p0 p1 : Byte) := ignoresMisuse_sendFrame cmd p0 p1
  cases hp : i.port with
  | lineIn => exact ⟨_, exec_of_lineIn hp, ignoresMisuse_arriveAll (encode i)⟩
  | lineOut =>
    obtain ⟨cmd, p0, p1, hexec⟩ := exec_of_lineOut hp
    exact ⟨_, hexec, ignoresMisuse_whenIdle (send cmd p0 p1)⟩
  | host =>
    cases i with
    | enc cmd p0 p1 => exact ⟨_, exec_enc cmd p0 p1, ignoresMisuse_whenIdle (send cmd p0 p1)⟩
    | dec exp n raw =>
      by_cases hn : n.toNat ≤ 8
      · exact ⟨_, exec_dec_of_le hn exp raw, ignoresMisuse_whenIdle (ignoresMisuse_record _)⟩
      · exact ⟨_, exec_dec_of_gt (Nat.not_le.1 hn) exp raw, ignoresMisuse_refuse .badLen⟩
    | recv exp => exact ⟨_, exec_recv exp, ignoresMisuse_whenIdle (ignoresMisuse_startReceive exp)⟩
    | xfer cmd p0 p1 =>
      exact ⟨_, fun _ => rfl, ignoresMisuse_whenIdle ((ignoresMisuse_startReceive cmd).comp (send cmd p0 p1))⟩
    | reset => exact ⟨_, exec_reset, ignoresMisuse_resetRegs⟩
    | reserved00 | reserved05 | reserved06 | reserved08 | reserved0C | reserved0E | reserved10 | reserved20
    | reserved40 | reserved80 => exact ⟨_, exec_of_row_reserved rfl, ignoresMisuse_refuse .reservedOp⟩
    | _ => cases hp

/-- Settles O34: each effect of a step but RESET's keeps a misuse on record, and each instruction's operation ignores the
record. -/
theorem misuseIsSticky : Obligations.MisuseIsSticky := by
  refine ⟨fun s t hm hstep => (step_effect s t hstep).misuse_kept hm, fun i s t m c hexec => ?_⟩
  obtain ⟨op, hop, hignores⟩ := exec_ignoresMisuse i
  obtain ⟨m', c', hsame⟩ := hignores s m c
  obtain rfl : op s = t := by simpa [hop] using hexec
  exact ⟨m', c', (hop _).trans (congrArg _ hsame)⟩

end Sys2Proof.Machine

/-! The statements of 70_reset_and_hazards.md: the reset state, which power-on and RESET give alike (R230, R232), and the
flush of the environment (R233). -/

namespace Sys2Proof.Machine

/-! ## The reset state (R230, R232) -/

/-- RESET gives the power-on registers; the streams and the model's own fields stay (R230, R232). -/
theorem State.resetRegs_eq (s : State) :
    s.resetRegs = { State.reset with rxq := s.rxq, txs := s.txs, cfg := s.cfg, inputs := s.inputs, draws := s.draws } :=
  rfl

theorem State.reset_fbByte (i : Fin 8) : State.reset.fbByte i = 0x00 :=
  Vector.getElem_replicate (n := 8) i.isLt

theorem State.reset_txByte (i : Fin 6) : State.reset.txByte i = 0x00 :=
  Vector.getElem_replicate (n := 6) i.isLt

/-- Settles O18: the two buffers read zero at every index, the other registers and the views by their values, and RESET's
registers are those of power-on. -/
theorem resetStateValues : Obligations.ResetStateValues := by
  refine ⟨⟨rfl, rfl, State.reset_fbByte, rfl, rfl, rfl, rfl, rfl, rfl, rfl, State.reset_txByte, rfl, rfl⟩,
    ⟨State.reset.resetRegs_statusWord, rfl, rfl, rfl⟩, fun s => ?_⟩
  rw [exec_reset, State.resetRegs_eq]

/-- Settles O40: RESET in such a state gives that state again (`resetRegs_eq`), and RESET always gives the invariant. -/
theorem resetHasInvariant : Obligations.ResetHasInvariant := by
  intro c rxq txs inputs draws
  exact State.resetRegs_inv { State.reset with cfg := c, rxq := rxq, txs := txs, inputs := inputs, draws := draws }

/-! ## The flush (R233) -/

/-- A step under a scheduled flush drops a prefix of `rxq`. -/
theorem step_of_flush (s : State) (n : Nat) (more : List Input) (h : s.inputs = .flush n :: more) :
    step s = .next (State.flush n { s with inputs := more }) :=
  step_of_inputs s (.flush n) more h

/-- Settles O7: the flush turn is carried out as it stands, whatever the engine's state. -/
theorem stepFlushesPrefix : Obligations.StepFlushesPrefix := step_of_flush

end Sys2Proof.Machine

/-! The words that 95_test_vectors.md writes out (R76 to R84, R71 to R73). -/

namespace Sys2Proof.Machine

/-- Bytes that are the word of a well-formed instruction decode to it at its port, with nothing left over. -/
theorem decode_of_encode_eq {i : Instr} {p : Port} {bytes : List Byte} (hp : i.port = p) (hw : i.wellFormed = true)
    (he : encode i = bytes) : decode p bytes = .ok (i, []) :=
  hp ▸ he ▸ (decodeEncodeRoundTrip i [] hw).1

/-- Settles O3: each list of bytes is the word of the well-formed instruction named for it, at that instruction's port. -/
theorem specWordsDecode : Obligations.SpecWordsDecode := by
  refine ⟨?enc, ?dec, ?decBadLen, ?recv, ?xfer, ?reset, ?reserved80, ?outVoltage, ?inElapsedTime, ?ack⟩ <;>
    exact decode_of_encode_eq rfl rfl rfl

end Sys2Proof.Machine
